-- ==== Sys2Proof/Word.lean ====
section
/-! DEFINITION. Words, ports and other plain values that every file of the model uses (spec 01 R1, 09 R146). -/

namespace Sys2Proof

/-- One byte of shared memory or of a frame. -/
abbrev Byte := BitVec 8

/-- A 16-bit management register's value (R181). -/
abbrev Reg16 := BitVec 16

/-- A 4-byte word of a line; the byte at its lowest address is bits 7:0 (R178). -/
abbrev Word := BitVec 32

/-- A line of the Shared Memory Array, 000H to FFFH (R1). -/
abbrev LineNo := BitVec 12

/-- The 16-bit line field of a link frame, which may exceed FFFH (R178, R179). -/
abbrev LineField := BitVec 16

/-- A word W0 to W7 of a line. -/
abbrev WordNo := BitVec 3

/-- A transaction tag: slot number × 16 + sequence number (R36). -/
abbrev Tag := BitVec 8

/-- The four link attachments. -/
inductive Port where
  | P0 | P1 | P2 | P3
deriving DecidableEq, Repr

/-- The ports in ascending number. -/
def Port.all : List Port := [.P0, .P1, .P2, .P3]

/-- The port's number. -/
def Port.number : Port → Nat
  | .P0 => 0
  | .P1 => 1
  | .P2 => 2
  | .P3 => 3

/-- The port of a two-bit number. -/
def Port.ofNumber (n : Nat) : Port :=
  match n % 4 with
  | 0 => .P0
  | 1 => .P1
  | 2 => .P2
  | _ => .P3

/-- One value for each port. -/
structure PerPort (α : Type) where
  p0 : α
  p1 : α
  p2 : α
  p3 : α
deriving DecidableEq, Repr

/-- The value of port `p`. -/
def PerPort.get {α : Type} (v : PerPort α) : Port → α
  | .P0 => v.p0
  | .P1 => v.p1
  | .P2 => v.p2
  | .P3 => v.p3

/-- `v` with port `p`'s value replaced. -/
def PerPort.set {α : Type} (v : PerPort α) (p : Port) (a : α) : PerPort α :=
  match p with
  | .P0 => { v with p0 := a }
  | .P1 => { v with p1 := a }
  | .P2 => { v with p2 := a }
  | .P3 => { v with p3 := a }

/-- The same value for every port. -/
def PerPort.const {α : Type} (a : α) : PerPort α := ⟨a, a, a, a⟩

/-- A value for each port from a function of the port. -/
def PerPort.map {α β : Type} (v : PerPort α) (f : α → β) : PerPort β := ⟨f v.p0, f v.p1, f v.p2, f v.p3⟩

/-- A set of ports. -/
abbrev PortSet := PerPort Bool

/-- The eight words W0 to W7 of a line, as a WRITEBACK or a DATA answer carries them (R4, R178). -/
structure LineData where
  w0 : Word
  w1 : Word
  w2 : Word
  w3 : Word
  w4 : Word
  w5 : Word
  w6 : Word
  w7 : Word
deriving DecidableEq, Repr

/-- The words in the order W0 to W7. -/
def LineData.toList (d : LineData) : List Word := [d.w0, d.w1, d.w2, d.w3, d.w4, d.w5, d.w6, d.w7]

end Sys2Proof
end

