-- ==== Sys2Proof/Config.lean ====
section
/-! DEFINITION. The constants the manual fixes for the part, and the free values it leaves open. -/

namespace Sys2Proof

/-- What checking one unit finds (R3, Table 1-2): nothing wrong, corrected data (the unit's two words), or an error that
cannot be corrected. -/
inductive CheckOutcome where
  | clean
  | corrected (lo hi : Word)
  | uncorrectable
deriving DecidableEq, Repr, Inhabited

/-- FREE VALUE (log 11). The outcome of checking a unit in which more than two bits are wrong: R3 leaves it to the check
code, which the manual does not give. The arguments are the unit's stored words and which of its data and check bits
are wrong. -/
opaque Config.multiBitOutcome (lo hi errLo errHi : Word) (errCheck : Byte) : CheckOutcome

/-- FREE VALUE (log 12). What bits 9:0 of SWEEP_STAT1 (cursor set and way) read while the cursor is past the end, where
the cursor has neither a set nor a way (R118, R182). The argument is the number of captures made before this one. -/
opaque Config.cursorFieldsPastEnd (draw : Nat) : BitVec 10

/-- Lines of the array (R1). -/
def Config.lineCount : Nat := 4096

/-- Request queue depth (R155). -/
def Config.requestDepth : Nat := 8

/-- Release queue depth (R85). -/
def Config.releaseDepth : Nat := 8

/-- Outbound queue depth (R53). -/
def Config.outboundDepth : Nat := 16

/-- Slots of the Transaction Table (R35). -/
def Config.slotCount : Nat := 16

/-- SWEEP transactions in flight at most (R123). -/
def Config.sweepLimit : Nat := 4

/-- Locks of one port at most (R105). -/
def Config.lockLimit : Nat := 2

/-- Matching echoes that end training (R151). -/
def Config.matchLimit : Nat := 16

/-- Consecutive bad frames that lose the link (R158). -/
def Config.badFrameLimit : Nat := 4

/-- Ways of the directory: 256 sets of four (R14). -/
def Config.wayCount : Nat := 1024

/-- One recall-timeout unit, µs (R56). -/
def Config.rtoUnit : Nat := 16

/-- One lock-lifetime unit, µs (R110). -/
def Config.lktUnit : Nat := 1000

/-- Qualification time, µs (R153). -/
def Config.qualificationTime : Nat := 500

/-- HELLO limit, µs (R153). -/
def Config.helloLimit : Nat := 2000

/-- How late a timer may run out, µs (R56, R110, R153). -/
def Config.timerSlack : Nat := 16

/-- Timers that may run out while the time moves on for one command (log 29). -/
def Config.timerBound : Nat := 4096

/-- How long initialisation may take, µs (R10). -/
def Config.initialisationTime : Nat := 200

/-- The value IDENT reads (R166). -/
def Config.identity : Reg16 := 0x7E42#16

end Sys2Proof
end

