-- ==== Sys2Proof/Syntax.lean ====
section
/-! DEFINITION. The commands: one constructor of Instr for each row of spec/opcode_table.json, with the operands the rules
give it (log 26). -/

namespace Sys2Proof

/-- The answer of a RECALL_ACK (R93 to R98, Table 11-3); DATA carries the line's eight words. -/
inductive Answer where
  | data (d : LineData)
  | clean
  | none
deriving DecidableEq, Repr

/-- The counters a write clears (R172, Table 11-4 and Table 11-5). -/
inductive Counter where
  | badFrames (p : Port)
  | overruns (p : Port)
  | staleAcks (p : Port)
  | corrected
deriving DecidableEq, Repr

/-- The read/write registers that have no row of their own in the table (R174, R130, R136, R176). -/
inductive SettingReg where
  | gctl
  | rto
  | lkt
  | tpat
  | prot0
  | prot1
  | wbase (k : Fin 4)
  | wctl (k : Fin 4)
  | inspAddr
  | inspW0
  | inspW1
deriving DecidableEq, Repr

/-- The commands of spec/opcode_table.json, in the table's order. -/
inductive Instr where
  /-- RESET_N: power-on reset, or RESET_N driven low (R33, R63). -/
  | resetN
  /-- INITIALISATION_START: reset ends and the array begins its initialisation (R10). -/
  | initialisationStart
  /-- INIT_DONE: the last line is written (R10, R11). -/
  | initDone
  /-- SIGNAL_PRESENT: signal appears on the port's receive pair (R148). -/
  | signalPresent (p : Port)
  /-- SIGNAL_LOST: signal is lost on the port's receive pair (R148, R158). -/
  | signalLost (p : Port)
  /-- BAD_FRAME: a frame fails its CRC or its framing (R149). -/
  | badFrame (p : Port)
  /-- MALFORMED_FRAME: a good frame of a wrong kind or length (R149, R179). -/
  | malformedFrame (p : Port)
  /-- ECHO with its pattern (R151). -/
  | echo (p : Port) (pattern : Byte)
  /-- HELLO from the agent, with its label (R153). -/
  | hello (p : Port) (label : BitVec 16)
  /-- PARK (R161). -/
  | park (p : Port)
  /-- WAKE (R162). -/
  | wake (p : Port)
  /-- RD_SHARED{line, word} (R69). -/
  | rdShared (p : Port) (line : LineField) (word : WordNo)
  /-- RD_OWN{line, word} (R74). -/
  | rdOwn (p : Port) (line : LineField) (word : WordNo)
  /-- UPGRADE{line} (R77). -/
  | upgrade (p : Port) (line : LineField)
  /-- LOCK{line, word} (R104). -/
  | lock (p : Port) (line : LineField) (word : WordNo)
  /-- PERMIT (R84). -/
  | permit (p : Port)
  /-- WRITEBACK{line, KEEP, data} (R88). -/
  | writeback (p : Port) (line : LineField) (keep : Bool) (data : LineData)
  /-- EVICT{line} (R92). -/
  | evict (p : Port) (line : LineField)
  /-- UNLOCK{line} (R113). -/
  | unlock (p : Port) (line : LineField)
  /-- RECALL_ACK{line, tag, answer} (R93). -/
  | recallAck (p : Port) (line : LineField) (tag : Tag) (answer : Answer)
  /-- MESSAGE_SENT: the oldest message of the port's outbound queue has left on the link (R157). -/
  | messageSent (p : Port)
  /-- RECALL_TIMEOUT: the deadline of the slot's member for the port runs out (R54, R55). -/
  | recallTimeout (slot : BitVec 4) (p : Port)
  /-- LOCK_EXPIRY: the deadline of the line's lock runs out (R111). -/
  | lockExpiry (line : LineNo)
  /-- QUALIFICATION_TIME: 500 µs have passed from the port's qualify start (R153). -/
  | qualificationTime (p : Port)
  /-- HELLO_LIMIT: 2000 µs have passed from the port's qualify start with no pending label (R153). -/
  | helloLimit (p : Port)
  /-- SOFT_RESET: a completed write to GCTL with SOFT_RESET 1 and this value of EXCL (R175). -/
  | softReset (excl : Bool)
  /-- PORT_ENABLE_SET: a completed write to PEN_SET (R147, R171). -/
  | portEnableSet (ports : BitVec 4)
  /-- PORT_ENABLE_CLEAR: a completed write to PEN_CLR (R147, R171). -/
  | portEnableClear (ports : BitVec 4)
  /-- PORT_RESET: a completed write to PCTLn with PORT_RESET 1 (R164, R173). -/
  | portReset (p : Port)
  /-- CLEAR_FAULT: a completed write to PCTLn with CLEAR_FAULT 1 (R160, R173). -/
  | clearFault (p : Port)
  /-- SWEEP_ALL: a completed write to SWCTL with START_ALL 1 (R119). -/
  | sweepAll
  /-- SWEEP_PORT: a completed write to SWCTL with START_PORT 1 (R119). -/
  | sweepPort (p : Port)
  /-- CANCEL: a completed write to SWCTL with CANCEL 1 (R126). -/
  | cancel
  /-- VIEW: a completed write to INSP_CMD with a code that names no command (R176). -/
  | view (high : Bool)
  /-- DIR_READ (R32). -/
  | dirRead (high : Bool)
  /-- TXN_READ (R62). -/
  | txnRead (high : Bool)
  /-- SM_READ (R9). -/
  | smRead (high : Bool)
  /-- SM_WRITE (R9). -/
  | smWrite (high : Bool)
  /-- CLEAR_POISON (R9). -/
  | clearPoison (high : Bool)
  /-- NSTAT_READ: a completed read of NSTAT (R167). -/
  | nstatRead
  /-- PSTAT_READ: a completed read of PSTATn (R167). -/
  | pstatRead (p : Port)
  /-- NMASK_WRITE: a completed write to NMASK (R169). -/
  | nmaskWrite (value : Reg16)
  /-- COUNTER_CLEAR: a completed write to a counter's register (R172). -/
  | counterClear (c : Counter)
  /-- HIT_FLAG_CLEAR: a completed write to WHIT (R143). -/
  | hitFlagClear (flags : BitVec 4)
  /-- REGISTER_WRITE: a completed write to a read/write register with no row of its own (R174). -/
  | registerWrite (r : SettingReg) (value : Reg16)
  /-- CAPTURE: the eighth bit of a management transfer to this index is sampled (R165). -/
  | capture (index : BitVec 7)
deriving DecidableEq, Repr

end Sys2Proof
end

