-- ==== Sys2Proof/WellFormed.lean ====
section
/-! DEFINITION. Which commands are well formed. The operands' types rule out every other ill-formed command (a slot above
15, a payload that is not eight words, a register that is not read/write). -/

namespace Sys2Proof

/-- A REGISTER_WRITE to GCTL carries no SOFT_RESET bit: with that bit the write is the command SOFT_RESET (R175). -/
def SettingReg.valueFits (r : SettingReg) (value : Reg16) : Bool :=
  match r with
  | .gctl => !value.getLsbD 15
  | _ => true

/-- The command is one that the table's rows describe. -/
def Instr.wellFormed : Instr → Bool
  | .registerWrite r value => r.valueFits value
  | .resetN => true
  | .initialisationStart => true
  | .initDone => true
  | .signalPresent _ => true
  | .signalLost _ => true
  | .badFrame _ => true
  | .malformedFrame _ => true
  | .echo _ _ => true
  | .hello _ _ => true
  | .park _ => true
  | .wake _ => true
  | .rdShared _ _ _ => true
  | .rdOwn _ _ _ => true
  | .upgrade _ _ => true
  | .lock _ _ _ => true
  | .permit _ => true
  | .writeback _ _ _ _ => true
  | .evict _ _ => true
  | .unlock _ _ => true
  | .recallAck _ _ _ _ => true
  | .messageSent _ => true
  | .recallTimeout _ _ => true
  | .lockExpiry _ => true
  | .qualificationTime _ => true
  | .helloLimit _ => true
  | .softReset _ => true
  | .portEnableSet _ => true
  | .portEnableClear _ => true
  | .portReset _ => true
  | .clearFault _ => true
  | .sweepAll => true
  | .sweepPort _ => true
  | .cancel => true
  | .view _ => true
  | .dirRead _ => true
  | .txnRead _ => true
  | .smRead _ => true
  | .smWrite _ => true
  | .clearPoison _ => true
  | .nstatRead => true
  | .pstatRead _ => true
  | .nmaskWrite _ => true
  | .counterClear _ => true
  | .hitFlagClear _ => true
  | .capture _ => true

end Sys2Proof
end

