-- ==== Sys2Proof/Decode.lean ====
section
/-! DEFINITION. Reading a command from a table word. No row of spec/opcode_table.json gives bits (its 46 rows have no
"fixed" part and empty "fields"), so no word spells a command. The link frames and the management transfers, which the
spec does lay out in bits, are read by Machine/Frames.lean and Machine/Transfer.lean. -/

namespace Sys2Proof

/-- The command that a table word spells: none, since the table gives no row any bits. -/
def decodeTableWord (_nbits _w : Nat) : Option Instr := none

end Sys2Proof
end

