-- ==== Sys2Proof/Machine/Store.lean ====
section
/-! DEFINITION. Sparse data in one canonical form: a list of (number, value) pairs, numbers rising, no pair equal to what an
unlisted number reads as. The array, the directory and the Transaction Table are such lists. -/

namespace Sys2Proof.Machine

/-- A sparse map from numbers. -/
abbrev Store (α : Type) := List (Nat × α)

/-- The value listed at `k`, where there is one. -/
def Store.find {α : Type} : Store α → Nat → Option α
  | [], _ => none
  | (j, v) :: rest, k => if j = k then some v else Store.find rest k

/-- `m` with `k` listed as `v`, in place. -/
def Store.put {α : Type} : Store α → Nat → α → Store α
  | [], k, v => [(k, v)]
  | (j, w) :: rest, k, v =>
    if k < j then (k, v) :: (j, w) :: rest
    else if k = j then (k, v) :: rest
    else (j, w) :: Store.put rest k v

/-- `m` with `k` unlisted. -/
def Store.erase {α : Type} (m : Store α) (k : Nat) : Store α := m.filter fun e => e.1 != k

/-- What `k` reads as, `d` where it is unlisted. -/
def Store.read {α : Type} (d : α) (m : Store α) (k : Nat) : α := (m.find k).getD d

/-- `m` with `k` reading as `v`; `k` is unlisted where `v` is what an unlisted number reads as. -/
def Store.write {α : Type} [DecidableEq α] (d : α) (m : Store α) (k : Nat) (v : α) : Store α :=
  if v = d then m.erase k else m.put k v

/-- The listed numbers rise strictly. -/
abbrev Store.Rising {α : Type} (m : Store α) : Prop := m.Pairwise fun a b => a.1 < b.1

/-- The canonical form: rising, every listed number below `bound`, and no value listed that an unlisted number reads as. -/
abbrev Store.Canonical {α : Type} [DecidableEq α] (d : α) (bound : Nat) (m : Store α) : Prop :=
  m.Rising ∧ ∀ e ∈ m, e.1 < bound ∧ e.2 ≠ d

end Sys2Proof.Machine
end

