-- ==== Sys2Proof/Machine/State.lean ====
section
/-! DEFINITION. The state of the hub as plain data, its value at reset, and the reasons a step could stop. -/

namespace Sys2Proof.Machine

/-! ## Shared Memory Array (Chapter 1) -/

/-- The condition of a line (R1). -/
inductive Condition where
  | good
  | poisoned
deriving DecidableEq, Repr

/-- What is wrong in one check unit against the data and check bits last written to it: a 1 for each wrong bit of its two
data words and of its 8 check bits (R3, log 10). -/
structure UnitError where
  lo : Word
  hi : Word
  check : Byte
deriving DecidableEq, Repr

/-- A unit in which nothing is wrong. -/
def UnitError.none : UnitError := ⟨0, 0, 0⟩

/-- The reset and initialisation phase of the array (R10, R11). -/
inductive InitPhase where
  /-- RESET_N is low, or power-on reset is in force. -/
  | resetLow
  /-- Initialisation runs since the given time. -/
  | initialising (start : Nat)
  /-- Initialisation has completed. -/
  | ready
deriving DecidableEq, Repr

/-- The Shared Memory Array (R1). -/
structure Sma where
  /-- The bytes as stored; an unlisted byte is 00H. -/
  bytes : List Host.Cell
  /-- The units, numbered line × 4 + unit, in which something is wrong. No command makes a bit wrong: the manual names no
  event that does (log 32). -/
  errors : Store UnitError
  /-- The lines whose condition is not GOOD. -/
  conds : Store Condition
  /-- CECNT. -/
  cecnt : BitVec 16
deriving DecidableEq, Repr

/-! ## Coherence Directory (Chapter 2) -/

/-- The holding of an entry, with its lock (R13, R15, R16): the lock's deadline stands with the owner it names. -/
inductive Holding where
  | empty
  | shared (sharers : PortSet)
  | owned (owner : Port) (lock : Option Nat)
deriving DecidableEq, Repr

/-- A directory entry (Table 2-1). Its directory tag is a view of the line, its recency its place in the set's list. -/
structure Entry where
  line : LineNo
  way : Nat
  holding : Holding
  busy : Option Nat
deriving DecidableEq, Repr

/-! ## Transaction Table (Chapter 3) -/

/-- The kind of a transaction (R35). -/
inductive TxnKind where
  | fetchShared
  | fetchOwn
  | upgrade
  | lockFetch
  | victim
  | sweep
deriving DecidableEq, Repr

/-- The phase of a transaction (R38). -/
inductive Phase where
  | waitWay
  | recalling
  | granting
deriving DecidableEq, Repr

/-- The mode of a recall (R39). -/
inductive RecallMode where
  | invalidate
  | downgrade
deriving DecidableEq, Repr

/-- The answer state of an awaited member (R39). -/
inductive MemberState where
  | waiting
  | released
  | answered
deriving DecidableEq, Repr

/-- An awaited member (R39). `second` is the attempt: clear for 1, set for 2. -/
structure Member where
  port : Port
  mode : RecallMode
  state : MemberState
  second : Bool
  deadline : Option Nat
deriving DecidableEq, Repr

/-- A transaction record (Table 3-1); its slot is the number it is listed under. -/
structure Txn where
  tag : Tag
  kind : TxnKind
  line : LineNo
  word : Option WordNo
  requester : Option Port
  phase : Phase
  abandoned : Bool
  awaited : List Member
  partner : Option Nat
  grantPending : Bool
deriving DecidableEq, Repr

/-! ## Messages (Chapters 3, 5, 9 and 11) -/

/-- The four acquire kinds (R64, R104). -/
inductive AcquireKind where
  | rdShared
  | rdOwn
  | upgrade
  | lock
deriving DecidableEq, Repr

/-- An acquire request: its line field as received, and its critical word, which UPGRADE has not (R64). -/
structure Acquire where
  kind : AcquireKind
  line : LineField
  word : Option WordNo
deriving DecidableEq, Repr

/-- A request-class message (R155). -/
inductive Request where
  | acquire (a : Acquire)
  | permit
deriving DecidableEq, Repr

/-- A release-class message (R85). -/
inductive Release where
  | writeback (line : LineField) (keep : Bool) (data : LineData)
  | evict (line : LineField)
  | unlock (line : LineField)
  | recallAck (line : LineField) (tag : Tag) (answer : Answer)
deriving DecidableEq, Repr

/-- The agent message that a DONE or a REFUSE answers (Table 11-2). -/
inductive AnsweredKind where
  | rdShared
  | rdOwn
  | upgrade
  | lock
  | permit
  | writeback
  | evict
  | unlock
deriving DecidableEq, Repr

/-- The grant a FILL or GRANT carries (Table 11-3). -/
inductive Grant where
  | shared
  | owned
  | ownedLocked
deriving DecidableEq, Repr

/-- Why a REFUSE refuses (Table 11-3). -/
inductive RefuseReason where
  | outOfRange
  | alreadyOwner
  | alreadyLocked
  | readOnly
  | noPermit
  | watch
  | lockLimit
  | overrun
  | notOwner
  | notLocked
deriving DecidableEq, Repr

/-- Why a PARK is refused (R161). -/
inductive ParkReason where
  | holdings
  | active
deriving DecidableEq, Repr

/-- A hub message (Table 9-4, Table 11-1). A FILL's words are in the order they are sent (R4). -/
inductive Msg where
  | fill (line : LineNo) (word : WordNo) (grant : Grant) (cond : Condition) (data : List Word)
  | grant (line : LineNo) (grant : Grant)
  | done (line : LineField) (kind : AnsweredKind)
  | refuse (line : LineField) (kind : AnsweredKind) (reason : RefuseReason)
  | recall (line : LineNo) (tag : Tag) (mode : RecallMode)
  | lockBroken (line : LineNo)
  | swept
  | train (pattern : Byte)
  | hello (port : Port)
  | parked
  | parkRefused (reason : ParkReason)
  | awake
deriving DecidableEq, Repr

/-- A message offered for placement (R53), with what its placing does besides entering the queue. -/
inductive Offer where
  /-- The grant of the transaction in the slot; its form is decided at the placing (R57). -/
  | grant (slot : Nat)
  /-- A RECALL of the slot's transaction; the member's deadline is set at the placing (R52). -/
  | recall (slot : Nat) (line : LineNo) (tag : Tag) (mode : RecallMode)
  /-- The REFUSE or DONE{PERMIT} of the request head, which leaves its queue at the placing (R44, R45). -/
  | head (m : Msg)
  /-- The DONE or REFUSE of the release head, which leaves its queue at the placing (R85). -/
  | release (m : Msg)
  /-- A NOTICE, PARK_REFUSED or AWAKE (R111, R125, R161, R162). -/
  | plain (m : Msg)
deriving DecidableEq, Repr

/-! ## Port Controller (Chapter 9) -/

/-- The link states (Table 9-2). -/
inductive LinkState where
  | disabled
  | down
  | training
  | qualify
  | up
  | parked
  | faulted
deriving DecidableEq, Repr

/-- One Port Controller (Table 9-1). The lock count and the holding count are views of the directory (log 13). -/
structure PortState where
  enable : Bool
  link : LinkState
  /-- The link receiver's report that signal is present (R148). -/
  signal : Bool
  matchCount : Nat
  qualifyStart : Option Nat
  pendingLabel : Option (BitVec 16)
  label : BitVec 16
  consecBad : Nat
  requests : List Request
  /-- The request head waits for its REFUSE or DONE to be placed (R44, R45). -/
  headAnswering : Bool
  releases : List Release
  /-- The release head is applied and waits for its answer to be placed (R85). -/
  releaseApplied : Bool
  outbound : List Msg
  waiting : List Offer
  permit : Bool
  badFrames : Byte
  overruns : Byte
  staleAcks : Byte
  /-- PSTATn: 0 UP, 1 LOSS, 2 FAULT, 3 OVERRUN, 4 PROTOCOL (Table 11-5). -/
  latches : Reg16
deriving DecidableEq, Repr

/-- A Port Controller after power-on and RESET_N (Table 9-1), its receiver reporting `signal`. -/
def PortState.reset (signal : Bool) : PortState where
  enable := false
  link := .disabled
  signal := signal
  matchCount := 0
  qualifyStart := none
  pendingLabel := none
  label := 0
  consecBad := 0
  requests := []
  headAnswering := false
  releases := []
  releaseApplied := false
  outbound := []
  waiting := []
  permit := false
  badFrames := 0
  overruns := 0
  staleAcks := 0
  latches := 0

/-! ## Sweep Engine (Chapter 7) -/

/-- The activity of the Sweep Engine (Table 7-1). -/
inductive SweepActivity where
  | idle
  | draining
  | sweeping
  | closing
deriving DecidableEq, Repr

/-- The kind of sweep (Table 7-1). -/
inductive SweepMode where
  | all
  | port (p : Port)
deriving DecidableEq, Repr

/-- How the last sweep ended (Table 7-1). -/
inductive SweepResult where
  | none
  | completed
  | cancelled
deriving DecidableEq, Repr

/-- The Sweep Engine (Table 7-1). The cursor is set × 4 + way, and Config.wayCount past the end; the in-flight count is a
view of the Transaction Table (log 13). -/
structure Sweep where
  activity : SweepActivity
  mode : Option SweepMode
  cursor : Nat
  cancelled : Bool
  last : SweepResult
  refused : Bool
deriving DecidableEq, Repr

/-- The Sweep Engine after every reset (R118). -/
def Sweep.reset : Sweep := ⟨.idle, none, 0, false, .none, false⟩

/-! ## Watch Unit (Chapter 8) -/

/-- The class of an access (R136). -/
inductive WatchClass where
  | shared
  | own
  | release
deriving DecidableEq, Repr

/-- The outcome of a watch event (R142). -/
inductive WatchOutcome where
  | noted
  | refused
deriving DecidableEq, Repr

/-- A watch entry as its two registers hold it (Table 8-4, Table 11-4). `ctl`: 2:0 span code, 5:3 classes, 9:6 port filter,
10 scope, 11 action, 12 enable. -/
structure WatchEntry where
  base : BitVec 12
  ctl : BitVec 13
deriving DecidableEq, Repr

/-- The first-hit capture (R142). -/
structure WatchCapture where
  port : Port
  line : LineNo
  cls : WatchClass
  outcome : WatchOutcome
deriving DecidableEq, Repr

/-- The Watch Unit: four entries, four hit flags, the first-hit capture. -/
structure Watch where
  e0 : WatchEntry
  e1 : WatchEntry
  e2 : WatchEntry
  e3 : WatchEntry
  hits : BitVec 4
  capture : WatchCapture
deriving DecidableEq, Repr

/-- The Watch Unit after power-on and RESET_N (R136, R142). -/
def Watch.reset : Watch := ⟨⟨0, 0⟩, ⟨0, 0⟩, ⟨0, 0⟩, ⟨0, 0⟩, 0, ⟨.P0, 0, .shared, .noted⟩⟩

/-! ## Management Port (Chapter 10) -/

/-- The command code INSP_STAT shows (Table 11-6). -/
inductive InspCode where
  | none
  | dirRead
  | txnRead
  | smRead
  | smWrite
  | clearPoison
deriving DecidableEq, Repr

/-- The status INSP_STAT shows (R176). -/
inductive InspStatus where
  | none
  | ok
  | noEntry
  | free
  | held
  | badAddress
  | busy
deriving DecidableEq, Repr

/-- The Inspect Window (R176). `high` is the half field. -/
structure Insp where
  addr : Reg16
  w0 : Reg16
  w1 : Reg16
  high : Bool
  code : InspCode
  status : InspStatus
  result : BitVec 128
deriving DecidableEq, Repr

/-- The Inspect Window after power-on, RESET_N and soft reset (R176). -/
def Insp.reset : Insp := ⟨0, 0, 0, false, .none, .none, 0⟩

/-- The value captured for the management transfer in progress (R165), and the latches of that register latched again
since (R167). -/
structure Capture where
  index : BitVec 7
  value : Reg16
  relatched : Reg16
deriving DecidableEq, Repr

/-- What the event in progress still owes (log 15). Both are clear between commands. -/
structure Work where
  /-- A waiting cursor, the draining test or the end test is to be examined again (R121, R122, R125). -/
  cursorDue : Bool
  /-- An examination pass is to be run (R40). -/
  passDue : Bool
deriving DecidableEq, Repr

/-! ## The hub -/

/-- The whole state of the hub, and the queue of commands that wait for it. -/
structure State where
  /-- Time, µs (log 2). -/
  now : Nat
  init : InitPhase
  sma : Sma
  /-- The directory's sets that hold entries: in each, its entries from the least recent to the most recent (R21). -/
  dir : Store (List Entry)
  /-- The slots in flight (R35). -/
  txns : Store Txn
  /-- The slots' sequence numbers that are not 0 (R36). -/
  seqs : Store Nat
  /-- The arbiter's last-admitted port (R47). -/
  lastAdmitted : Port
  ports : PerPort PortState
  sweep : Sweep
  /-- PROT0 (R130). -/
  prot0 : Reg16
  /-- PROT1 (R130). -/
  prot1 : Reg16
  watch : Watch
  /-- NSTAT, the notice flags at the positions of Table 11-6 (R168). -/
  nstat : Reg16
  /-- NMASK (R169). -/
  nmask : Reg16
  /-- EXCL (R73). -/
  excl : Bool
  /-- The RTO setting n (R56). -/
  rto : Byte
  /-- The LKT setting n (R110). -/
  lkt : Byte
  /-- TPAT (R151). -/
  tpat : Byte
  insp : Insp
  capture : Option Capture
  work : Work
  /-- Captures made so far: the argument of the free value of log 12. -/
  draws : Nat
  /-- The commands that wait, first in, first out (log 1). -/
  pending : List Instr
deriving DecidableEq, Repr

/-- Reasons for the machine to stop: there are none. No command of the hub stops it; a port fault (R159) is a state of one
port, and what the hub refuses it refuses by a message (R44), a status code (R176) or a flag (R119). -/
inductive Fault
deriving DecidableEq, Repr

/-- Reasons for a command to have no meaning. -/
inductive Refusal where
  /-- Raised by exec's own arm for a command that has no meaning yet; no arm raises it now. Safe: nothing is claimed. -/
  | notModelled (mnemonic : String)
deriving DecidableEq, Repr

/-- The hub while power-on reset is in force, or RESET_N is low (R33, R63, R103, R118, R145, R146, R168 to R176, Tables 11-4
and 11-5), with no command waiting. -/
def State.reset : State where
  now := 0
  init := .resetLow
  sma := ⟨[], [], [], 0⟩
  dir := []
  txns := []
  seqs := []
  lastAdmitted := .P3
  ports := PerPort.const (PortState.reset false)
  sweep := Sweep.reset
  prot0 := 0
  prot1 := 0
  watch := Watch.reset
  nstat := 0
  nmask := 0
  excl := true
  rto := 16#8
  lkt := 20#8
  tpat := 0x9A#8
  insp := Insp.reset
  capture := none
  work := ⟨false, false⟩
  draws := 0
  pending := []

end Sys2Proof.Machine
end

