-- ==== Sys2Proof/Machine/Ops.lean ====
section
/-! DEFINITION. The named operations over the memory, the Port Controllers, the directory's sets and the slots. Every other
file reads and writes State through them. -/

namespace Sys2Proof.Machine

/-! ## Port Controllers -/

/-- Port `p`'s Port Controller. -/
def State.port (s : State) (p : Port) : PortState := s.ports.get p

/-- `s` with port `p`'s Port Controller changed by `f`. -/
def State.updPort (s : State) (p : Port) (f : PortState → PortState) : State :=
  { s with ports := s.ports.set p (f (s.port p)) }

/-- Port `p` is in `UP`. -/
def State.isUp (s : State) (p : Port) : Bool := (s.port p).link == .up

/-! ## Sets of ports -/

/-- The empty set. -/
def PortSet.empty : PortSet := PerPort.const false

/-- `p` is in the set. -/
def PortSet.has (ps : PortSet) (p : Port) : Bool := ps.get p

/-- The set with `p`. -/
def PortSet.insert (ps : PortSet) (p : Port) : PortSet := ps.set p true

/-- The set without `p`. -/
def PortSet.remove (ps : PortSet) (p : Port) : PortSet := ps.set p false

/-- The set's ports, in ascending number. -/
def PortSet.toList (ps : PortSet) : List Port := Port.all.filter fun p => PortSet.has ps p

/-- The set as four bits, bit 0 for P0. -/
def PortSet.toBits (ps : PortSet) : BitVec 4 :=
  BitVec.ofBool ps.p3 ++ BitVec.ofBool ps.p2 ++ BitVec.ofBool ps.p1 ++ BitVec.ofBool ps.p0

/-- The set that four bits name, bit 0 for P0. -/
def PortSet.ofBits (b : BitVec 4) : PortSet := ⟨b.getLsbD 0, b.getLsbD 1, b.getLsbD 2, b.getLsbD 3⟩

/-! ## Memory: the bytes of the array (R1) -/

/-- Bytes of shared memory (R1). -/
def Memory.size : Nat := 131072

/-- The byte at `a`; a byte that is not listed is 00H, as initialisation leaves it (R10). -/
def Memory.readByte (m : List Host.Cell) (a : Nat) : Byte := Store.read (0 : Byte) m a

/-- `m` with the byte at `a` set to `b`. -/
def Memory.writeByte (m : List Host.Cell) (a : Nat) (b : Byte) : List Host.Cell := Store.write (0 : Byte) m a b

/-- The word whose lowest-addressed byte is at `a`: that byte is bits 7:0 (R178). -/
def Memory.readWord (m : List Host.Cell) (a : Nat) : Word :=
  Memory.readByte m (a + 3) ++ Memory.readByte m (a + 2) ++ Memory.readByte m (a + 1) ++ Memory.readByte m a

/-- `m` with the word at `a` set to `w`. -/
def Memory.writeWord (m : List Host.Cell) (a : Nat) (w : Word) : List Host.Cell :=
  let m := Memory.writeByte m a (w.extractLsb' 0 8)
  let m := Memory.writeByte m (a + 1) (w.extractLsb' 8 8)
  let m := Memory.writeByte m (a + 2) (w.extractLsb' 16 8)
  Memory.writeByte m (a + 3) (w.extractLsb' 24 8)

/-- The canonical form of the memory: addresses rise within the address space, and no listed byte is 00H. -/
abbrev Memory.wf (m : List Host.Cell) : Prop := Store.Canonical (0 : Byte) Memory.size m

/-- The address of word `k` of a line (R1). -/
def wordAddress (line : LineNo) (k : Nat) : Nat := line.toNat * 32 + 4 * k

/-! ## The array's lines, units and conditions (R1) -/

/-- Word `k` of a line, as stored. -/
def Sma.word (a : Sma) (line : LineNo) (k : Nat) : Word := Memory.readWord a.bytes (wordAddress line k)

/-- The number a check unit of a line is listed under. -/
def unitNumber (line : LineNo) (u : Nat) : Nat := line.toNat * 4 + u

/-- What is wrong in check unit `u` of a line. -/
def Sma.unitError (a : Sma) (line : LineNo) (u : Nat) : UnitError := Store.read UnitError.none a.errors (unitNumber line u)

/-- Check unit `u` of a line (words 2u and 2u + 1) written with fresh check bits. -/
def Sma.writeUnit (a : Sma) (line : LineNo) (u : Nat) (lo hi : Word) : Sma :=
  { a with
    bytes := Memory.writeWord (Memory.writeWord a.bytes (wordAddress line (2 * u)) lo) (wordAddress line (2 * u + 1)) hi
    errors := Store.write UnitError.none a.errors (unitNumber line u) UnitError.none }

/-- A line's condition. -/
def Sma.cond (a : Sma) (line : LineNo) : Condition := Store.read Condition.good a.conds line.toNat

/-- The array with a line's condition set. -/
def Sma.setCond (a : Sma) (line : LineNo) (c : Condition) : Sma :=
  { a with conds := Store.write Condition.good a.conds line.toNat c }

/-- The eight words of a line as stored, W0 to W7. -/
def Sma.lineWords (a : Sma) (line : LineNo) : List Word := (List.range 8).map (a.word line)

/-- A line write (R8): all eight words with fresh check bits in every unit, and the condition GOOD. -/
def Sma.writeLine (a : Sma) (line : LineNo) (d : LineData) : Sma :=
  let a := a.writeUnit line 0 d.w0 d.w1
  let a := a.writeUnit line 1 d.w2 d.w3
  let a := a.writeUnit line 2 d.w4 d.w5
  let a := a.writeUnit line 3 d.w6 d.w7
  a.setCond line .good

/-- The array as initialisation leaves it (R10): every line all-zero, with fresh check bits and GOOD. -/
def Sma.cleared (a : Sma) : Sma := { a with bytes := [], errors := [], conds := [] }

/-! ## The directory's sets (R14) -/

/-- The set of a line. -/
def setOf (line : LineNo) : Nat := line.toNat % 256

/-- The directory tag of a line, which is its protection block too (R14, R130). -/
def tagOf (line : LineNo) : Nat := line.toNat / 256

/-- A set's entries, from the least recent to the most recent. -/
def State.setEntries (s : State) (set : Nat) : List Entry := Store.read ([] : List Entry) s.dir set

/-- `s` with a set's entries replaced. -/
def State.putSet (s : State) (set : Nat) (es : List Entry) : State :=
  { s with dir := Store.write ([] : List Entry) s.dir set es }

/-- A lookup (R18): the entry that names the line, on a hit. -/
def State.lookup (s : State) (line : LineNo) : Option Entry :=
  (s.setEntries (setOf line)).find? fun e => e.line == line

/-- The free ways of a set, lowest first (R14, R18). -/
def State.freeWays (s : State) (set : Nat) : List Nat :=
  (List.range 4).filter fun w => !(s.setEntries set).any fun e => e.way == w

/-- Every entry of the directory. -/
def State.entries (s : State) : List Entry := s.dir.flatMap fun e => e.2

/-! ## The slots (R35, R36) -/

/-- The transaction in flight in a slot. -/
def State.txn (s : State) (slot : Nat) : Option Txn := Store.find s.txns slot

/-- `s` with a slot in flight with the record `t`. -/
def State.putTxn (s : State) (slot : Nat) (t : Txn) : State := { s with txns := Store.put s.txns slot t }

/-- `s` with a slot's record changed by `f`, where the slot is in flight. -/
def State.updTxn (s : State) (slot : Nat) (f : Txn → Txn) : State :=
  match s.txn slot with
  | some t => s.putTxn slot (f t)
  | none => s

/-- The free slots, lowest first. -/
def State.freeSlots (s : State) : List Nat := (List.range Config.slotCount).filter fun n => (s.txn n).isNone

/-- A slot's sequence number. -/
def State.seq (s : State) (slot : Nat) : Nat := Store.read 0 s.seqs slot

/-- The slot in flight that names the line, if any (R37). -/
def State.txnOn (s : State) (line : LineNo) : Option (Nat × Txn) := s.txns.find? fun e => e.2.line == line

/-- The tag of a slot and a sequence number (R36). -/
def tagFor (slot seq : Nat) : Tag := BitVec.ofNat 8 (slot * 16 + seq)

/-- `s` with a slot's sequence number advanced by one, from 15 to 0 (R36). -/
def State.advanceSeq (s : State) (slot : Nat) : State :=
  { s with seqs := Store.write 0 s.seqs slot ((s.seq slot + 1) % 16) }

/-! ## Time -/

/-- `s` with the time moved on to `t`, where it is still earlier (log 4). -/
def State.atLeast (s : State) (t : Nat) : State := { s with now := max s.now t }

/-- A timer setting in units: 0 acts as 1 (R56, R110). -/
def settingUnits (n : Byte) : Nat := max 1 n.toNat

/-- The recall timeout RTO in force, µs (R56). -/
def State.recallTimeout (s : State) : Nat := settingUnits s.rto * Config.rtoUnit

/-- The lock lifetime LKT in force, µs (R110). -/
def State.lockLifetime (s : State) : Nat := settingUnits s.lkt * Config.lktUnit

end Sys2Proof.Machine
end

