-- ==== Sys2Proof/Machine/Flags.lean ====
section
/-! DEFINITION. Notice flags, port latches, counters, the follow-up marks and IRQ_N (Chapter 10, R25, R40). -/

namespace Sys2Proof.Machine

/-- The eleven notice flags (Table 10-3). -/
inductive Notice where
  | portUp
  | portLoss
  | portFault
  | overrun
  | protocol
  | watch
  | lockBroken
  | poison
  | sweepDone
  | corrected
  | initDone
deriving DecidableEq, Repr

/-- A notice flag's position (Table 11-6). -/
def Notice.position : Notice → Nat
  | .portUp => 0
  | .portLoss => 1
  | .portFault => 2
  | .overrun => 3
  | .protocol => 4
  | .watch => 5
  | .lockBroken => 6
  | .poison => 7
  | .sweepDone => 8
  | .corrected => 9
  | .initDone => 10

/-- A notice flag as a register bit. -/
def Notice.bit (n : Notice) : Reg16 := 1#16 <<< n.position

/-- The five port latches (R170). -/
inductive PortLatch where
  | up
  | loss
  | fault
  | overrun
  | protocol
deriving DecidableEq, Repr

/-- A port latch as a bit of PSTATn (Table 11-5). -/
def PortLatch.bit : PortLatch → Reg16
  | .up => 1
  | .loss => 2
  | .fault => 4
  | .overrun => 8
  | .protocol => 16

/-- The index of NSTAT (Table 11-4). -/
def nstatIndex : BitVec 7 := 0x01#7

/-- The index of a port register (Table 11-5). -/
def portRegIndex (p : Port) (offset : Nat) : BitVec 7 := BitVec.ofNat 7 (0x40 + 0x10 * p.number + offset)

/-- The index of PSTATn. -/
def pstatIndex (p : Port) : BitVec 7 := portRegIndex p 0

/-- A captured value of the register `index` remembers that `bits` of it have been latched again (R167). -/
def Capture.relatch (c : Capture) (index : BitVec 7) (bits : Reg16) : Capture :=
  if c.index = index then { c with relatched := c.relatched ||| bits } else c

/-- A notice flag is latched (R168). -/
def State.latch (s : State) (n : Notice) : State :=
  { s with nstat := s.nstat ||| n.bit, capture := s.capture.map fun c => c.relatch nstatIndex n.bit }

/-- A port latch is set (R170). -/
def State.latchPort (s : State) (p : Port) (l : PortLatch) : State :=
  { s.updPort p (fun ps => { ps with latches := ps.latches ||| l.bit }) with
    capture := s.capture.map fun c => c.relatch (pstatIndex p) l.bit }

/-- A notice and the port latch set with it (Table 10-3). -/
def State.latchBoth (s : State) (p : Port) (n : Notice) (l : PortLatch) : State := (s.latch n).latchPort p l

/-- PROTOCOL, for a port (R91, R149, R150). -/
def State.latchProtocol (s : State) (p : Port) : State := s.latchBoth p .protocol .protocol

/-- A counter raised by one, staying at its top (R5, R172). -/
def saturatingInc {w : Nat} (n : BitVec w) : BitVec w := if n = BitVec.allOnes w then n else n + 1

/-- CECNT raised by one (R5). -/
def State.raiseCecnt (s : State) : State := { s with sma := { s.sma with cecnt := saturatingInc s.sma.cecnt } }

/-- IRQ_N is driven low (R169). -/
def State.irqLow (s : State) : Bool := (s.nstat &&& s.nmask) != 0

/-- The directory's report of a freed way, a cleared busy mark or a removed lock in a set (R25): it starts an examination
pass (R40), and a cursor that waits in that set examines its way again (R122). -/
def State.report (s : State) (set : Nat) : State :=
  { s with work := { cursorDue := s.work.cursorDue || s.sweep.cursor / 4 == set, passDue := true } }

/-- A freed slot starts an examination pass (R40), and a waiting cursor examines its way again (R122). -/
def State.reportSlot (s : State) : State := { s with work := ⟨true, true⟩ }

end Sys2Proof.Machine
end

