-- ==== Sys2Proof/Machine/Array.lean ====
section
/-! DEFINITION. Accesses to the Shared Memory Array with their notices: checking a unit, line reads, poisoning (R2 to R9). -/

namespace Sys2Proof.Machine

/-- The number of bits set. -/
def bitCount {w : Nat} (x : BitVec w) : Nat := (List.range w).countP fun i => x.getLsbD i

/-- How many of a unit's 72 bits are wrong. -/
def UnitError.weight (e : UnitError) : Nat := bitCount e.lo + bitCount e.hi + bitCount e.check

/-- What checking a unit finds (R3): one wrong bit is corrected, wherever it lies; two are uncorrectable; more give
whichever outcome the check code gives (log 11). -/
def checkOutcome (lo hi : Word) (e : UnitError) : CheckOutcome :=
  match e.weight with
  | 0 => .clean
  | 1 => .corrected (lo ^^^ e.lo) (hi ^^^ e.hi)
  | 2 => .uncorrectable
  | _ => Config.multiBitOutcome lo hi e.lo e.hi e.check

/-- The outcome of checking unit `u` of a line as it stands. -/
def Sma.unitOutcome (a : Sma) (line : LineNo) (u : Nat) : CheckOutcome :=
  checkOutcome (a.word line (2 * u)) (a.word line (2 * u + 1)) (a.unitError line u)

/-- A line is poisoned (R7): its condition becomes POISONED and POISON is latched. -/
def State.poison (s : State) (line : LineNo) : State :=
  { s with sma := s.sma.setCond line .poisoned }.latch .poison

/-- Unit `u` of a line is read and checked (R3), with the effects of R5 and R6. -/
def State.checkUnit (s : State) (line : LineNo) (u : Nat) : State :=
  match s.sma.unitOutcome line u with
  | .clean => s
  | .corrected lo hi => ({ s with sma := s.sma.writeUnit line u lo hi }.raiseCecnt).latch .corrected
  | .uncorrectable => s.poison line

/-- A line read (R2): the four units are checked. The words and the condition delivered are those that then stand. -/
def State.lineRead (s : State) (line : LineNo) : State :=
  (((s.checkUnit line 0).checkUnit line 1).checkUnit line 2).checkUnit line 3

/-- A line write (R8). -/
def State.lineWrite (s : State) (line : LineNo) (d : LineData) : State := { s with sma := s.sma.writeLine line d }

/-- The unit that holds a word, read and checked as SM_READ does (R9). -/
def State.wordRead (s : State) (line : LineNo) (k : Nat) : State := s.checkUnit line (k / 2)

/-- One word stored beside the other word of its unit, as read, with fresh check bits (R9, SM_WRITE). -/
def Sma.storeWord (a : Sma) (line : LineNo) (k : Nat) (w : Word) : Sma :=
  if k % 2 = 0 then a.writeUnit line (k / 2) w (a.word line (k + 1))
  else a.writeUnit line (k / 2) (a.word line (k - 1)) w

/-- SM_WRITE at the array (R9): the unit is read and checked first, then the word is stored. -/
def State.wordWrite (s : State) (line : LineNo) (k : Nat) (w : Word) : State :=
  let s := s.wordRead line k
  { s with sma := s.sma.storeWord line k w }

/-- CLEAR_POISON at the array (R9). -/
def State.unpoison (s : State) (line : LineNo) : State := { s with sma := s.sma.setCond line .good }

end Sys2Proof.Machine
end

