-- ==== Sys2Proof/Machine/Operands.lean ====
section
/-! DEFINITION. The operand forms: line fields, critical words and wrap order, request and transaction kinds, block modes,
watch-entry fields. -/

namespace Sys2Proof.Machine

/-! ## Lines and words -/

/-- The line a line field names; none above FFFH (R65, R102, R179). -/
def lineOf (f : LineField) : Option LineNo := if f.toNat < Config.lineCount then some (f.truncate 12) else none

/-- The line field that carries a line (R178). -/
def fieldOf (line : LineNo) : LineField := line.zeroExtend 16

/-- A line's words in wrap order from the critical word (R4, Table 1-3). -/
def wrapOrder (word : WordNo) (ws : List Word) : List Word := ws.drop word.toNat ++ ws.take word.toNat

/-! ## Kinds -/

/-- The transaction kind of an acquire request (Table 4-1). -/
def AcquireKind.txnKind : AcquireKind → TxnKind
  | .rdShared => .fetchShared
  | .rdOwn => .fetchOwn
  | .upgrade => .upgrade
  | .lock => .lockFetch

/-- The kind a REFUSE of an acquire request names (R44). -/
def AcquireKind.answered : AcquireKind → AnsweredKind
  | .rdShared => .rdShared
  | .rdOwn => .rdOwn
  | .upgrade => .upgrade
  | .lock => .lock

/-- The kind a request overrun's REFUSE names, and its line: a PERMIT has line 0000H (R156). -/
def Request.answered : Request → LineField × AnsweredKind
  | .acquire a => (a.line, a.kind.answered)
  | .permit => (0, .permit)

/-- RD_OWN, UPGRADE and LOCK are the ownership requests (R131). -/
def AcquireKind.ownership : AcquireKind → Bool
  | .rdShared => false
  | .rdOwn => true
  | .upgrade => true
  | .lock => true

/-- The class of an acquire request, fixed by its kind (R137). -/
def AcquireKind.watchClass : AcquireKind → WatchClass
  | .rdShared => .shared
  | .rdOwn => .own
  | .upgrade => .own
  | .lock => .own

/-- The class of a transaction's access: that of its request's kind; VICTIM and SWEEP have none (R137, R139). -/
def TxnKind.watchClass : TxnKind → Option WatchClass
  | .fetchShared => some .shared
  | .fetchOwn => some .own
  | .upgrade => some .own
  | .lockFetch => some .own
  | .victim => none
  | .sweep => none

/-- The four agent kinds (R35). -/
def TxnKind.isAgent : TxnKind → Bool
  | .fetchShared => true
  | .fetchOwn => true
  | .upgrade => true
  | .lockFetch => true
  | .victim => false
  | .sweep => false

/-! ## Members -/

/-- A member in state WAITING or RELEASED is open (R93). -/
def MemberState.isOpen : MemberState → Bool
  | .waiting => true
  | .released => true
  | .answered => false

/-- The transaction's member for a port (R39). -/
def Txn.member (t : Txn) (p : Port) : Option Member := t.awaited.find? fun m => m.port == p

/-- The transaction with its member for a port changed. -/
def Txn.updMember (t : Txn) (p : Port) (f : Member → Member) : Txn :=
  { t with awaited := t.awaited.map fun m => if m.port = p then f m else m }

/-- The transaction has an open member for the port. -/
def Txn.awaits (t : Txn) (p : Port) : Bool :=
  match t.member p with
  | some m => m.state.isOpen
  | none => false

/-- Every awaited member is ANSWERED. -/
def Txn.allAnswered (t : Txn) : Bool := t.awaited.all fun m => m.state == .answered

/-- A member as the taking or the sweep step plans it (R39). -/
def Member.planned (mode : RecallMode) (p : Port) : Member := ⟨p, mode, .waiting, false, none⟩

/-! ## Holdings -/

/-- The owner, where the holding is OWNED. -/
def Holding.owner : Holding → Option Port
  | .owned p _ => some p
  | .empty => none
  | .shared _ => none

/-- The deadline of the lock, where one is present. -/
def Holding.lock : Holding → Option Nat
  | .owned _ l => l
  | .empty => none
  | .shared _ => none

/-- The port that has locked the line: the owner (R16). -/
def Holding.lockedBy (h : Holding) : Option Port := if h.lock.isSome then h.owner else none

/-- The holders, owner or sharers, in ascending port number. -/
def Holding.holders : Holding → List Port
  | .empty => []
  | .shared ps => PortSet.toList ps
  | .owned p _ => [p]

/-- The port is owner or sharer. -/
def Holding.names (h : Holding) (p : Port) : Bool := h.holders.contains p

/-- The entry's owner on a hit. -/
def State.ownerOf (s : State) (line : LineNo) : Option Port := (s.lookup line).bind fun e => e.holding.owner

/-- The port whose lock the line's entry carries. -/
def State.lockerOf (s : State) (line : LineNo) : Option Port := (s.lookup line).bind fun e => e.holding.lockedBy

/-- A port's holding count: the entries that name it as owner or sharer (R27). -/
def State.holdingCount (s : State) (p : Port) : Nat := s.entries.countP fun e => e.holding.names p

/-- A port's lock count: the locks that name it (R105). -/
def State.lockCount (s : State) (p : Port) : Nat := s.entries.countP fun e => e.holding.lockedBy == some p

/-- The SWEEP transactions in flight (R118). -/
def State.sweepsInFlight (s : State) : Nat := s.txns.countP fun e => e.2.kind == .sweep

/-! ## Protection modes (R130) -/

/-- A block's mode: the register encoding has four values, the fourth acting as READONLY (R130). -/
inductive BlockMode where
  | openMode
  | permitMode
  | readOnly
deriving DecidableEq, Repr

/-- The mode a two-bit code acts as (Table 11-6, R130). -/
def BlockMode.ofCode (c : BitVec 2) : BlockMode :=
  if c = 0#2 then .openMode else if c = 1#2 then .permitMode else .readOnly

/-- The two-bit code of block `b` in PROT0 and PROT1 (Table 11-4). -/
def State.blockCode (s : State) (b : Nat) : BitVec 2 :=
  if b < 8 then s.prot0.extractLsb' (2 * b) 2 else s.prot1.extractLsb' (2 * (b - 8)) 2

/-- The mode of a line's block, which is numbered as its directory tag (R130). -/
def State.blockMode (s : State) (line : LineNo) : BlockMode := BlockMode.ofCode (s.blockCode (tagOf line))

/-! ## Watch-entry fields (Table 8-4, Table 11-4) -/

/-- The span code; the span is 2 to the power of it. -/
def WatchEntry.spanCode (e : WatchEntry) : Nat := (e.ctl.extractLsb' 0 3).toNat

/-- The entry lists the class. -/
def WatchEntry.hasClass (e : WatchEntry) : WatchClass → Bool
  | .shared => e.ctl.getLsbD 3
  | .own => e.ctl.getLsbD 4
  | .release => e.ctl.getLsbD 5

/-- The port filter. -/
def WatchEntry.filter (e : WatchEntry) : PortSet := PortSet.ofBits (e.ctl.extractLsb' 6 4)

/-- The scope is SESSION. -/
def WatchEntry.isSession (e : WatchEntry) : Bool := e.ctl.getLsbD 10

/-- The action is REFUSE. -/
def WatchEntry.refuses (e : WatchEntry) : Bool := e.ctl.getLsbD 11

/-- The entry is on. -/
def WatchEntry.enabled (e : WatchEntry) : Bool := e.ctl.getLsbD 12

/-- The entry, off. -/
def WatchEntry.disable (e : WatchEntry) : WatchEntry := { e with ctl := e.ctl &&& 0x0FFF#13 }

/-- The line lies in the entry's range: span lines from the base rounded down to a multiple of the span (R136). -/
def WatchEntry.inRange (e : WatchEntry) (line : LineNo) : Bool :=
  line.toNat / 2 ^ e.spanCode == e.base.toNat / 2 ^ e.spanCode

/-- An access matches the entry (R137). -/
def WatchEntry.isMatch (e : WatchEntry) (p : Port) (line : LineNo) (c : WatchClass) : Bool :=
  e.inRange line && e.hasClass c && PortSet.has e.filter p && (!e.isSession || PortSet.toList e.filter == [p])

/-- The four entries in order. -/
def Watch.entries (w : Watch) : List WatchEntry := [w.e0, w.e1, w.e2, w.e3]

/-- The entry of a number. -/
def Watch.entry (w : Watch) (k : Fin 4) : WatchEntry :=
  match k with
  | 0 => w.e0
  | 1 => w.e1
  | 2 => w.e2
  | 3 => w.e3

/-- The unit with one entry changed. -/
def Watch.updEntry (w : Watch) (k : Fin 4) (f : WatchEntry → WatchEntry) : Watch :=
  match k with
  | 0 => { w with e0 := f w.e0 }
  | 1 => { w with e1 := f w.e1 }
  | 2 => { w with e2 := f w.e2 }
  | 3 => { w with e3 := f w.e3 }

/-- The unit with every entry changed by `f`. -/
def Watch.mapEntries (w : Watch) (f : WatchEntry → WatchEntry) : Watch :=
  { w with e0 := f w.e0, e1 := f w.e1, e2 := f w.e2, e3 := f w.e3 }

end Sys2Proof.Machine
end

