-- ==== Sys2Proof/Machine/Directory.lean ====
section
/-! DEFINITION. The directory's entries: the four holder changes, allocation, freeing, recency, victim choice, lock and busy
marks (R15 to R25). -/

namespace Sys2Proof.Machine

/-! ## Holder changes (R20, Table 2-4). The rows that the table does not have change nothing (log 25). -/

/-- "Add p as sharer". -/
def Holding.addSharer (h : Holding) (p : Port) : Holding :=
  match h with
  | .empty => .shared (PortSet.insert PortSet.empty p)
  | .shared ps => .shared (PortSet.insert ps p)
  | .owned q l => .owned q l

/-- "Make p owner". -/
def Holding.makeOwner (h : Holding) (p : Port) : Holding :=
  match h with
  | .empty => .owned p none
  | .shared _ => .owned p none
  | .owned q l => .owned q l

/-- "Demote owner p to sharer"; any lock goes with the ownership. -/
def Holding.demote (h : Holding) (p : Port) : Holding :=
  match h with
  | .empty => .empty
  | .shared ps => .shared ps
  | .owned q l => if q = p then .shared (PortSet.insert PortSet.empty p) else .owned q l

/-- "Remove p"; any lock goes with the ownership, and a holding without holders is absent. -/
def Holding.removePort (h : Holding) (p : Port) : Holding :=
  match h with
  | .empty => .empty
  | .shared ps => if PortSet.remove ps p = PortSet.empty then .empty else .shared (PortSet.remove ps p)
  | .owned q l => if q = p then .empty else .owned q l

/-- The lock is attached, with its deadline (R16, R109). -/
def Holding.attachLock (h : Holding) (deadline : Nat) : Holding :=
  match h with
  | .owned p _ => .owned p (some deadline)
  | .empty => .empty
  | .shared ps => .shared ps

/-- The lock is removed; the owner stays (R111, R113). -/
def Holding.dropLock (h : Holding) : Holding :=
  match h with
  | .owned p _ => .owned p none
  | .empty => .empty
  | .shared ps => .shared ps

/-! ## Entries -/

/-- The line's entry changed by `f`, in its place of the recency order. -/
def State.updEntry (s : State) (line : LineNo) (f : Entry → Entry) : State :=
  s.putSet (setOf line) ((s.setEntries (setOf line)).map fun e => if e.line = line then f e else e)

/-- The line's entry taken out of its set and of the set's recency order. -/
def State.dropEntry (s : State) (line : LineNo) : State :=
  s.putSet (setOf line) ((s.setEntries (setOf line)).filter fun e => e.line != line)

/-- The line's entry freed, and the freed way reported (R24, R25). -/
def State.freeEntry (s : State) (line : LineNo) : State := (s.dropEntry line).report (setOf line)

/-- The entry is freed when it has no holder and no busy mark (R24). -/
def State.freeIfIdle (s : State) (line : LineNo) : State :=
  match s.lookup line with
  | some e => if e.holding = .empty ∧ e.busy = none then s.freeEntry line else s
  | none => s

/-- A holder change on the line's entry (R20): a lock that goes is reported (R16, R25), and an entry left idle is freed. -/
def State.changeHolding (s : State) (line : LineNo) (f : Holding → Holding) : State :=
  match s.lookup line with
  | none => s
  | some e =>
    let s' := s.updEntry line fun e => { e with holding := f e.holding }
    let s' := if e.holding.lock.isSome && (f e.holding).lock.isNone then s'.report (setOf line) else s'
    s'.freeIfIdle line

/-- A new entry at the most recent end of its set: no holder, busy with the slot (R19, R23). -/
def State.allocate (s : State) (line : LineNo) (way slot : Nat) : State :=
  s.putSet (setOf line) (s.setEntries (setOf line) ++ [⟨line, way, .empty, some slot⟩])

/-- The busy mark is set (R17). -/
def State.setBusy (s : State) (line : LineNo) (slot : Nat) : State :=
  s.updEntry line fun e => { e with busy := some slot }

/-- The busy mark of a completing transaction is cleared and reported (R17, R25). -/
def State.clearBusy (s : State) (line : LineNo) (slot : Nat) : State :=
  match s.lookup line with
  | some e =>
    if e.busy = some slot then (s.updEntry line fun e => { e with busy := none }).report (setOf line) else s
  | none => s

/-- The entry moves to the most recent end of its set (R21). -/
def State.toMostRecent (s : State) (line : LineNo) : State :=
  let es := s.setEntries (setOf line)
  s.putSet (setOf line) ((es.filter fun e => e.line != line) ++ es.filter fun e => e.line == line)

/-- The victim of a full set: the least recent entry that is neither busy nor locked (R22). -/
def State.victimOf (s : State) (set : Nat) : Option Entry :=
  (s.setEntries set).find? fun e => e.busy.isNone && e.holding.lock.isNone

/-- The line's lock ends without its ownership (R111, R113), and the removal is reported (R25). -/
def State.removeLock (s : State) (line : LineNo) : State := s.changeHolding line Holding.dropLock

end Sys2Proof.Machine
end

