-- ==== Sys2Proof/Machine/WatchUnit.lean ====
section
/-! DEFINITION. The Watch Unit's tests, its events and the end of a session (R138 to R144). -/

namespace Sys2Proof.Machine

/-- The hit flags of the entries that match an access (R141). -/
def Watch.matchBits (w : Watch) (p : Port) (line : LineNo) (c : WatchClass) : BitVec 4 :=
  BitVec.ofBool (w.e3.isMatch p line c) ++ BitVec.ofBool (w.e2.isMatch p line c) ++
    BitVec.ofBool (w.e1.isMatch p line c) ++ BitVec.ofBool (w.e0.isMatch p line c)

/-- A watch event at the unit (R141, R142): the capture is loaded where all four flags were clear, then the flag of every
matching entry is set. -/
def Watch.hit (w : Watch) (p : Port) (line : LineNo) (c : WatchClass) (o : WatchOutcome) : Watch :=
  { w with
    capture := if w.hits = 0 then ⟨p, line, c, o⟩ else w.capture
    hits := w.hits ||| w.matchBits p line c }

/-- A watch event: the flags, the capture and the WATCH notice (R141, R142). -/
def State.watchEvent (s : State) (p : Port) (line : LineNo) (c : WatchClass) (o : WatchOutcome) : State :=
  { s with watch := s.watch.hit p line c o }.latch .watch

/-- Check 4 of admission finds an enabled REFUSE entry that matches (R138). -/
def State.watchRefuses (s : State) (p : Port) (line : LineNo) (c : WatchClass) : Bool :=
  s.watch.entries.any fun e => e.enabled && e.refuses && e.isMatch p line c

/-- The test of a placed grant or a line write: an enabled entry that matches makes a watch event NOTED (R139, R140). -/
def State.watchTest (s : State) (p : Port) (line : LineNo) (c : WatchClass) : State :=
  if s.watch.entries.any fun e => e.enabled && e.isMatch p line c then s.watchEvent p line c .noted else s

/-- The entry's session ends with the retirement of `p`: a SESSION entry whose filter names exactly `p` goes off (R144). -/
def WatchEntry.endSession (e : WatchEntry) (p : Port) : WatchEntry :=
  if e.isSession && PortSet.toList e.filter == [p] then e.disable else e

/-- Every SESSION entry that names exactly `p` goes off (R144). -/
def State.endSessions (s : State) (p : Port) : State :=
  { s with watch := s.watch.mapEntries fun e => e.endSession p }

/-- Every SESSION entry goes off (R145). -/
def State.endAllSessions (s : State) : State :=
  { s with watch := s.watch.mapEntries fun e => if e.isSession then e.disable else e }

end Sys2Proof.Machine
end

