-- ==== Sys2Proof/Machine/Placement.lean ====
section
/-! DEFINITION. Offering and placing messages, grant placement, completion, and the end of recalling (R50, R52, R53, R57 to
R59, R68, R72, R99, R108, R109). -/

namespace Sys2Proof.Machine

/-- A message enters port `p`'s outbound queue. -/
def State.pushOut (s : State) (p : Port) (m : Msg) : State :=
  s.updPort p fun ps => { ps with outbound := ps.outbound ++ [m] }

/-- A transaction without victim or partner completes (R57 to R60): its busy mark is cleared, its entry is freed where it
has no holder, and its slot is freed, with the reports of R25. -/
def State.completeTxn (s : State) (slot : Nat) : State :=
  match s.txn slot with
  | none => s
  | some t =>
    let s := (s.clearBusy t.line slot).freeIfIdle t.line
    { s with txns := Store.erase s.txns slot }.reportSlot

/-- The form of a grant at its placing (Tables 4-3 and 6-2). -/
structure GrantForm where
  /-- FILL, with a line read, or GRANT. -/
  fill : Bool
  grant : Grant
  /-- The holding the grant leaves, before a lock is attached. -/
  holding : Holding
deriving DecidableEq, Repr

/-- The exclusive grant is allowed (R72, R133). -/
def State.exclusiveAllowed (s : State) (t : Txn) (h : Holding) : Bool :=
  t.awaited.isEmpty && h == .empty && s.excl && s.blockMode t.line == .openMode

/-- The grant form of transaction `t` of requester `p`, from the entry's holding as it stands (R68, R72, R108). -/
def State.grantForm (s : State) (t : Txn) (p : Port) (h : Holding) : GrantForm :=
  match t.kind with
  | .fetchShared =>
    if s.exclusiveAllowed t h then ⟨true, .owned, h.makeOwner p⟩ else ⟨true, .shared, h.addSharer p⟩
  | .fetchOwn => ⟨true, .owned, h.makeOwner p⟩
  | .upgrade => ⟨!h.names p, .owned, h.makeOwner p⟩
  | .lockFetch => ⟨h.owner != some p, .ownedLocked, h.makeOwner p⟩
  | .victim => ⟨false, .shared, h⟩
  | .sweep => ⟨false, .shared, h⟩

/-- The message of a grant: a FILL copies the words and the condition as they stand after the line read (R2, R4, R57). -/
def State.grantMsg (s : State) (t : Txn) (g : GrantForm) : Msg :=
  if g.fill then
    .fill t.line (t.word.getD 0) g.grant (s.sma.cond t.line) (wrapOrder (t.word.getD 0) (s.sma.lineWords t.line))
  else .grant t.line g.grant

/-- The holding after the grant, with the lock of an OWNED_LOCKED grant (R109). -/
def State.grantedHolding (s : State) (g : GrantForm) : Holding :=
  if g.grant = .ownedLocked then g.holding.attachLock (s.now + s.lockLifetime) else g.holding

/-- The watch test of a placed grant (R139). -/
def State.grantWatch (s : State) (p : Port) (t : Txn) : State :=
  match t.kind.watchClass with
  | some c => s.watchTest p t.line c
  | none => s

/-- The holding of the line's entry, absent where there is no entry. -/
def State.holdingOf (s : State) (line : LineNo) : Holding := ((s.lookup line).map fun e => e.holding).getD .empty

/-- The holder change of a placed grant, with the lock, and the recency move (R21, R57). -/
def State.grantEntry (s : State) (line : LineNo) (g : GrantForm) : State :=
  (s.updEntry line fun e => { e with holding := s.grantedHolding g }).toMostRecent line

/-- The line read of a FILL (R2). -/
def State.grantRead (s : State) (t : Txn) (g : GrantForm) : State := if g.fill then s.lineRead t.line else s

/-- The placing of the grant `g` of the transaction `t` in the slot (R57): the line read of a FILL, the message, the holder
change with the lock, the recency move, the watch test, and the completion. -/
def State.placeForm (s : State) (p : Port) (slot : Nat) (t : Txn) (g : GrantForm) : State :=
  let s := s.grantRead t g
  (((s.pushOut p (s.grantMsg t g)).grantEntry t.line g).grantWatch p t).completeTxn slot

/-- The transaction is the port's own and not abandoned. -/
def Txn.isLiveOf (t : Txn) (p : Port) : Bool := t.requester == some p && !t.abandoned

/-- The placing of the grant of port `p`'s transaction in the slot (R57): its form is decided from the entry as it stands.
An abandoned transaction never places a grant (R60). -/
def State.placeGrant (s : State) (p : Port) (slot : Nat) : State :=
  match s.txn slot with
  | none => s
  | some t => if t.isLiveOf p then s.placeForm p slot t (s.grantForm t p (s.holdingOf t.line)) else s

/-- A message is placed: it enters port `p`'s outbound queue, with what its placing does besides (R53). -/
def State.place (s : State) (p : Port) (o : Offer) : State :=
  match o with
  | .grant slot => s.placeGrant p slot
  | .recall slot line tag mode =>
    (s.pushOut p (.recall line tag mode)).updTxn slot fun t =>
      t.updMember p fun m => { m with deadline := some (s.now + s.recallTimeout) }
  | .head m =>
    s.updPort p fun ps =>
      { ps with outbound := ps.outbound ++ [m], requests := ps.requests.tail, headAnswering := false }
  | .release m =>
    s.updPort p fun ps =>
      { ps with outbound := ps.outbound ++ [m], releases := ps.releases.tail, releaseApplied := false }
  | .plain m => s.pushOut p m

/-- The port's outbound queue has a free place and no message waits for it (R53, R156). -/
def State.hasRoom (s : State) (p : Port) : Bool :=
  decide ((s.port p).outbound.length < Config.outboundDepth) && (s.port p).waiting.isEmpty

/-- The offer joins the tail of the port's wait list (R53); a grant that waits is pending (Table 3-1). -/
def State.enqueueOffer (s : State) (p : Port) (o : Offer) : State :=
  let s := s.updPort p fun ps => { ps with waiting := ps.waiting ++ [o] }
  match o with
  | .grant slot => s.updTxn slot fun t => { t with grantPending := true }
  | .recall _ _ _ _ => s
  | .head _ => s
  | .release _ => s
  | .plain _ => s

/-- A message is offered for placement (R53): placed at once, or kept on the wait list. -/
def State.offer (s : State) (p : Port) (o : Offer) : State :=
  if s.hasRoom p then s.place p o else s.enqueueOffer p o

/-- The slot's transaction offers a RECALL to each of its members, in ascending port number (R52, log 19). -/
def State.offerRecalls (s : State) (slot : Nat) : State :=
  match s.txn slot with
  | none => s
  | some t => t.awaited.foldl (fun s m => s.offer m.port (.recall slot t.line t.tag m.mode)) s

/-- The slot's agent transaction enters GRANTING and offers its grant (R57). -/
def State.offerGrant (s : State) (slot : Nat) : State :=
  match s.txn slot with
  | none => s
  | some t =>
    match t.requester with
    | none => s
    | some p => (s.putTxn slot { t with phase := .granting, partner := none }).offer p (.grant slot)

/-- A VICTIM completes (R23, R50, R58): its entry and its slot are freed; a partner that is not abandoned is given the way
and goes to GRANTING; an abandoned partner completes, and the way is reported as freed. -/
def State.completeVictim (s : State) (slot : Nat) : State :=
  match s.txn slot with
  | none => s
  | some t =>
    let way := ((s.lookup t.line).map fun e => e.way).getD 0
    let set := setOf t.line
    let s := (s.dropEntry t.line).report set
    let s := { s with txns := Store.erase s.txns slot }.reportSlot
    match t.partner with
    | none => s
    | some q =>
      match s.txn q with
      | none => s
      | some r =>
        if r.abandoned then { s with txns := Store.erase s.txns q }.reportSlot
        else (s.allocate r.line way q).offerGrant q

/-- The slot's transaction leaves RECALLING once its last member is ANSWERED (Table 3-2, R99). -/
def State.leaveRecalling (s : State) (slot : Nat) : State :=
  match s.txn slot with
  | none => s
  | some t =>
    if t.phase = .recalling ∧ t.allAnswered = true then
      match t.kind with
      | .victim => s.completeVictim slot
      | .sweep => s.completeTxn slot
      | .fetchShared => if t.abandoned then s.completeTxn slot else s.offerGrant slot
      | .fetchOwn => if t.abandoned then s.completeTxn slot else s.offerGrant slot
      | .upgrade => if t.abandoned then s.completeTxn slot else s.offerGrant slot
      | .lockFetch => if t.abandoned then s.completeTxn slot else s.offerGrant slot
    else s

/-- The offer is a RECALL of the slot's transaction. -/
def Offer.isRecallOf (o : Offer) (slot : Nat) : Bool :=
  match o with
  | .recall n _ _ _ => n == slot
  | .grant _ => false
  | .head _ => false
  | .release _ => false
  | .plain _ => false

/-- The slot's member for `p` becomes ANSWERED (R99): its deadline goes, its RECALL is withdrawn from the wait list (log
22), and the transaction leaves RECALLING if this was its last open member. -/
def State.answerMember (s : State) (slot : Nat) (p : Port) : State :=
  let s := s.updTxn slot fun t => t.updMember p fun m => { m with state := .answered, deadline := none }
  let s := s.updPort p fun ps => { ps with waiting := ps.waiting.filter fun o => !o.isRecallOf slot }
  s.leaveRecalling slot

end Sys2Proof.Machine
end

