-- ==== Sys2Proof/Machine/Sweep.lean ====
section
/-! DEFINITION. The Sweep Engine inside an event: the holds, the draining test, the cursor, the Start and the end of a sweep
(R120 to R125). -/

namespace Sys2Proof.Machine

/-- The sweep's mode concerns the port: every port under ALL, the named port under PORT. -/
def SweepMode.concerns (m : SweepMode) (p : Port) : Bool :=
  match m with
  | .all => true
  | .port q => q == p

/-- The sweep concerns the port; a sweep without a mode concerns none. -/
def Sweep.concerns (w : Sweep) (p : Port) : Bool :=
  match w.mode with
  | some m => m.concerns p
  | none => false

/-- A running sweep holds the acquires of the port (R120). -/
def State.sweepHolds (s : State) (p : Port) : Bool := s.sweep.activity != .idle && s.sweep.concerns p

/-- The draining test (R121): no agent transaction of a held port is in flight, other than abandoned ones. -/
def State.drained (s : State) : Bool :=
  !s.txns.any fun e =>
    e.2.kind.isAgent && !e.2.abandoned && (match e.2.requester with
      | some p => s.sweep.concerns p
      | none => false)

/-- What the cursor does at one way (R122). -/
inductive CursorStep where
  | pass
  | wait
  | start (line : LineNo) (members : List Port)
deriving DecidableEq, Repr

/-- The ports that a sweep recalls at an entry: every holder under ALL; the named port, where the entry names it (R123). -/
def SweepMode.recalled (m : SweepMode) (h : Holding) : List Port :=
  match m with
  | .all => h.holders
  | .port p => if h.names p then [p] else []

/-- The sweep is concerned with an entry: with every entry under ALL, with those that name its port under PORT. -/
def SweepMode.wants (m : SweepMode) (h : Holding) : Bool :=
  match m with
  | .all => true
  | .port p => h.names p

/-- What the cursor does at an entry (Table 7-2). The row the table does not have, an entry without holder that is not
busy, is passed (log 25). -/
def SweepMode.stepAt (m : SweepMode) (e : Entry) : CursorStep :=
  if m.wants e.holding then
    if e.busy.isSome || e.holding.lock.isSome then .wait
    else if (m.recalled e.holding).isEmpty then .pass
    else .start e.line (m.recalled e.holding)
  else .pass

/-- The entry in a way, numbered set × 4 + way. -/
def State.entryInWay (s : State) (c : Nat) : Option Entry := (s.setEntries (c / 4)).find? fun e => e.way == c % 4

/-- What the cursor does at the way it stands on (Table 7-2). -/
def State.cursorStep (s : State) : CursorStep :=
  match s.entryInWay s.sweep.cursor, s.sweep.mode with
  | some e, some m => m.stepAt e
  | _, _ => .pass

/-- The cursor moves to the next way. -/
def State.advanceCursor (s : State) : State := { s with sweep := { s.sweep with cursor := s.sweep.cursor + 1 } }

/-- A slot is allocated to a new transaction (R36): its sequence number advances, and the record takes the tag. -/
def State.openTxn (s : State) (slot : Nat) (record : Tag → Txn) : State :=
  let s := s.advanceSeq slot
  s.putTxn slot (record (tagFor slot (s.seq slot)))

/-- The record of a VICTIM or SWEEP transaction: no requester, no word, every member in mode INVALIDATE (R49, R123). -/
def recallRecord (kind : TxnKind) (line : LineNo) (members : List Port) (partner : Option Nat) (tag : Tag) : Txn where
  tag := tag
  kind := kind
  line := line
  word := none
  requester := none
  phase := .recalling
  abandoned := false
  awaited := members.map (Member.planned .invalidate)
  partner := partner
  grantPending := false

/-- A Start on the entry of a line, in a free slot (R123). -/
def State.startSweep (s : State) (slot : Nat) (line : LineNo) (members : List Port) : State :=
  (((s.openTxn slot (recallRecord .sweep line members none)).setBusy line slot).offerRecalls slot).advanceCursor

/-- The slot a Start may take: the lowest free one, while fewer than four SWEEP transactions are in flight (R123). -/
def State.startSlot (s : State) : Option Nat :=
  if s.sweepsInFlight < Config.sweepLimit then s.freeSlots.head? else none

/-- The ports a COMPLETED sweep tells SWEPT: those it concerns that are UP (R125). -/
def State.sweptPorts (s : State) : List Port := Port.all.filter fun p => s.sweep.concerns p && s.isUp p

/-- The result of the sweep that ends (R125). -/
def Sweep.result (w : Sweep) : SweepResult := if w.cancelled then .cancelled else .completed

/-- The end of a sweep (R125): the result, SWEEP_DONE, the SWEPT notices, and the examination pass. The cancel flag stays as
it stands, which no rule says (log 33). -/
def State.endSweep (s : State) : State :=
  let told := if s.sweep.cancelled then [] else s.sweptPorts
  let s := { s with sweep := { s.sweep with activity := .idle, last := s.sweep.result } }.latch .sweepDone
  let s := told.foldl (fun s p => s.offer p (.plain .swept)) s
  { s with work := { s.work with passDue := true } }

/-- The end test (R125). -/
def State.endTest (s : State) : State :=
  if s.sweep.activity = .closing ∧ s.sweepsInFlight = 0 then s.endSweep else s

/-- The cursor past the end closes the sweep, and the end test is made (R122). -/
def State.closeSweep (s : State) : State := { s with sweep := { s.sweep with activity := .closing } }.endTest

/-- The cursor runs from the way it stands on until it waits or passes the end (R122, R123). The number bounds the ways it
may examine (log 29). -/
def State.runCursor : Nat → State → State
  | 0, s => s
  | n + 1, s =>
    if s.sweep.cursor < Config.wayCount then
      match s.cursorStep with
      | .pass => State.runCursor n s.advanceCursor
      | .wait => s
      | .start line members =>
        match s.startSlot with
        | none => s
        | some slot => State.runCursor n (s.startSweep slot line members)
    else s.closeSweep

/-- The cursor runs, from wherever it stands. -/
def State.sweepOn (s : State) : State := State.runCursor (Config.wayCount + 1) s

/-- DRAINING passes to SWEEPING, and the cursor begins at set 00H, way 0 (R121). -/
def State.beginCursor (s : State) : State :=
  { s with sweep := { s.sweep with activity := .sweeping, cursor := 0 } }.sweepOn

/-- The Sweep Engine's share of an event in which something it waits for may have come (R48, R121, R122, R124). -/
def State.cursorService (s : State) : State :=
  if s.work.cursorDue then
    let s := { s with work := { s.work with cursorDue := false } }
    match s.sweep.activity with
    | .idle => s
    | .draining => if s.drained then s.beginCursor else s
    | .sweeping => s.sweepOn
    | .closing => s.endTest
  else s

end Sys2Proof.Machine
end

