-- ==== Sys2Proof/Machine/Admission.lean ====
section
/-! DEFINITION. Admission: the refusal checks, the hold conditions, the taking, and the examination of heads and of passes
(R40 to R49, R67, R107). -/

namespace Sys2Proof.Machine

/-! ## Refusal checks (Table 3-3) -/

/-- Check 2: the port's own ownership, or for LOCK its own lock (R66, R104). -/
def State.check2 (s : State) (p : Port) (k : AcquireKind) (line : LineNo) : Option RefuseReason :=
  match k with
  | .lock => if s.lockerOf line = some p then some .alreadyLocked else none
  | .rdShared => if s.ownerOf line = some p then some .alreadyOwner else none
  | .rdOwn => if s.ownerOf line = some p then some .alreadyOwner else none
  | .upgrade => if s.ownerOf line = some p then some .alreadyOwner else none

/-- Check 3: the block's mode, for the ownership requests (R131). -/
def State.check3 (s : State) (p : Port) (k : AcquireKind) (line : LineNo) : Option RefuseReason :=
  if k.ownership then
    match s.blockMode line with
    | .openMode => none
    | .permitMode => if (s.port p).permit then none else some .noPermit
    | .readOnly => some .readOnly
  else none

/-- Check 4: a REFUSE watch entry (R138). -/
def State.check4 (s : State) (p : Port) (k : AcquireKind) (line : LineNo) : Option RefuseReason :=
  if s.watchRefuses p line k.watchClass then some .watch else none

/-- The port's LOCK_FETCH transactions in flight that are not abandoned (R41, R104). -/
def State.lockFetches (s : State) (p : Port) : Nat :=
  s.txns.countP fun e => e.2.kind == .lockFetch && !e.2.abandoned && e.2.requester == some p

/-- Check 5: the limit of locks, for LOCK (R104). -/
def State.check5 (s : State) (p : Port) (k : AcquireKind) : Option RefuseReason :=
  if k = .lock ∧ Config.lockLimit ≤ s.lockCount p + s.lockFetches p then some .lockLimit else none

/-- The first of the checks 2 to 5 that refuses (R41). -/
def State.refusal (s : State) (p : Port) (k : AcquireKind) (line : LineNo) : Option RefuseReason :=
  (s.check2 p k line).or ((s.check3 p k line).or ((s.check4 p k line).or (s.check5 p k)))

/-! ## Hold conditions (Table 3-4) -/

/-- The line is locked by another port. -/
def State.lockedByOther (s : State) (p : Port) (line : LineNo) : Bool :=
  match s.lockerOf line with
  | some q => q != p
  | none => false

/-- Slots or a way are missing: one slot on a hit or with a free way; two slots and a victim in a full set. -/
def State.lacksRoom (s : State) (line : LineNo) : Bool :=
  if (s.lookup line).isSome || !(s.freeWays (setOf line)).isEmpty then s.freeSlots.isEmpty
  else (s.victimOf (setOf line)).isNone || decide (s.freeSlots.length < 2)

/-- A hold condition holds (R42). -/
def State.mustHold (s : State) (p : Port) (line : LineNo) : Bool :=
  s.sweepHolds p || (s.txnOn line).isSome || s.lockedByOther p line || s.lacksRoom line

/-! ## The examination -/

/-- The outcome of an examination (section 3.4). -/
inductive Verdict where
  | accept
  | refuse (reason : RefuseReason)
  | hold
  | take (line : LineNo)
deriving DecidableEq, Repr

/-- The examination of an acquire request: the checks in order, then the holds (R41, R42). -/
def State.examineAcquire (s : State) (p : Port) (a : Acquire) : Verdict :=
  match lineOf a.line with
  | none => .refuse .outOfRange
  | some line =>
    match s.refusal p a.kind line with
    | some r => .refuse r
    | none => if s.mustHold p line then .hold else .take line

/-- The recall plan of a taken request, from the holding its lookup found (Table 4-2, Table 6-1). -/
def recallPlan (k : AcquireKind) (p : Port) (h : Holding) : List Member :=
  match k with
  | .rdShared => match h.owner with
    | some q => if q = p then [] else [Member.planned .downgrade q]
    | none => []
  | .rdOwn => (h.holders.filter fun q => q != p).map (Member.planned .invalidate)
  | .upgrade => (h.holders.filter fun q => q != p).map (Member.planned .invalidate)
  | .lock => (h.holders.filter fun q => q != p).map (Member.planned .invalidate)

/-- The record of a taken request (R46). -/
def Acquire.record (a : Acquire) (p : Port) (line : LineNo) (phase : Phase) (awaited : List Member)
    (partner : Option Nat) (tag : Tag) : Txn where
  tag := tag
  kind := a.kind.txnKind
  line := line
  word := a.word
  requester := some p
  phase := phase
  abandoned := false
  awaited := awaited
  partner := partner
  grantPending := false

/-- The first phase of a request taken without a victim (Table 3-2). -/
def planPhase (plan : List Member) : Phase := if plan.isEmpty then .granting else .recalling

/-- Steps 2 to 6 of a taking whose lookup hits (R46): slot, record, busy mark, plan, RECALLs. -/
def State.claimHit (s : State) (p : Port) (a : Acquire) (line : LineNo) (slot : Nat) (e : Entry) : State :=
  let plan := recallPlan a.kind p e.holding
  ((s.openTxn slot (a.record p line (planPhase plan) plan none)).setBusy line slot).offerRecalls slot

/-- Steps 2 to 6 of a taking that is given a free way (R19, R46). -/
def State.claimWay (s : State) (p : Port) (a : Acquire) (line : LineNo) (slot way : Nat) : State :=
  (s.openTxn slot (a.record p line .granting [] none)).allocate line way slot

/-- Steps 2 to 6 of a taking with a victim (R22, R49): the requester's record in the lower slot, the VICTIM in the higher. -/
def State.claimVictim (s : State) (p : Port) (a : Acquire) (line : LineNo) (slot second : Nat) (v : Entry) : State :=
  let s := s.openTxn slot (a.record p line .waitWay [] (some second))
  let s := s.openTxn second (recallRecord .victim v.line v.holding.holders (some slot))
  (s.setBusy v.line second).offerRecalls second

/-- Steps 2 to 6 of a taking, in the lowest free slot (R46). -/
def State.claim (s : State) (p : Port) (a : Acquire) (line : LineNo) (slot : Nat) : State :=
  match s.lookup line with
  | some e => s.claimHit p a line slot e
  | none =>
    match s.freeWays (setOf line) with
    | way :: _ => s.claimWay p a line slot way
    | [] =>
      match s.victimOf (setOf line), s.freeSlots with
      | some v, _ :: second :: _ => s.claimVictim p a line slot second v
      | _, _ => s

/-- The slot's transaction offers its grant where it is in GRANTING (R46, R57). -/
def State.grantIfReady (s : State) (slot : Nat) : State :=
  match s.txn slot with
  | some t => if t.phase = .granting then s.offerGrant slot else s
  | none => s

/-- Check 3 passes on the permit latch for this request (R131). -/
def State.usesPermit (s : State) (k : AcquireKind) (line : LineNo) : Bool :=
  k.ownership && s.blockMode line == .permitMode

/-- The taking of the request at the port's head (R46). -/
def State.take (s : State) (p : Port) (a : Acquire) (line : LineNo) : State :=
  match s.freeSlots with
  | [] => s
  | slot :: _ =>
    let s := if s.usesPermit a.kind line then s.updPort p fun ps => { ps with permit := false } else s
    let s := { s.claim p a line slot with lastAdmitted := p }
    (s.updPort p fun ps => { ps with requests := ps.requests.tail }).grantIfReady slot

/-- The watch event of a refusal (R138). -/
def State.refusalWatch (s : State) (p : Port) (a : Acquire) (reason : RefuseReason) : State :=
  match reason, lineOf a.line with
  | .watch, some line => s.watchEvent p line a.kind.watchClass .refused
  | _, _ => s

/-- The refusal of the request at the port's head (R44). -/
def State.refuse (s : State) (p : Port) (a : Acquire) (reason : RefuseReason) : State :=
  ((s.refusalWatch p a reason).updPort p fun ps => { ps with headAnswering := true }).offer p
    (.head (.refuse a.line a.kind.answered reason))

/-- The acceptance of the PERMIT at the port's head (R45). -/
def State.acceptPermit (s : State) (p : Port) : State :=
  (s.updPort p fun ps => { ps with permit := true, headAnswering := true }).offer p (.head (.done 0 .permit))

/-- The outcome of the examination of a head (section 3.4). -/
def State.verdict (s : State) (p : Port) (r : Request) : Verdict :=
  match r with
  | .permit => .accept
  | .acquire a => s.examineAcquire p a

/-- What an examination of the port's head does (R42, R44, R45, R46). -/
def State.actOn (s : State) (p : Port) (r : Request) : State :=
  match r with
  | .permit => s.acceptPermit p
  | .acquire a =>
    match s.examineAcquire p a with
    | .accept => s
    | .refuse reason => s.refuse p a reason
    | .hold => s
    | .take line => s.take p a line

/-- The head of an UP port that is to be examined: not one that waits for its answer to be placed (R40). -/
def State.headToExamine (s : State) (p : Port) : Option Request :=
  if s.isUp p && !(s.port p).headAnswering then (s.port p).requests.head? else none

/-- The port's head is examined, and each request that reaches the head after it (R40, R44, R46, log 16). The number bounds
the requests (log 29). -/
def State.examineFrom : Nat → State → Port → State
  | 0, s, _ => s
  | n + 1, s, p =>
    match s.headToExamine p with
    | none => s
    | some r =>
      if s.verdict p r = .hold then s else State.examineFrom n (s.actOn p r).cursorService p

/-- The port's head is examined, and each request that reaches the head after it. -/
def State.examineHeads (s : State) (p : Port) : State := State.examineFrom (s.port p).requests.length s p

/-- The order of a pass: the four ports from the one after the last-admitted port (R47). -/
def passOrder : Port → List Port
  | .P0 => [.P1, .P2, .P3, .P0]
  | .P1 => [.P2, .P3, .P0, .P1]
  | .P2 => [.P3, .P0, .P1, .P2]
  | .P3 => [.P0, .P1, .P2, .P3]

/-- An examination pass (R47). -/
def State.pass (s : State) : State := (passOrder s.lastAdmitted).foldl State.examineHeads s

/-- The requests in the four queues. -/
def State.queued (s : State) : Nat := (Port.all.map fun p => (s.port p).requests.length).sum

/-- The Sweep Engine is served first, then the pass that is due is run, until neither is due (R40, R48, R59, log 15). The
number bounds the passes (log 29). -/
def State.settleWithin : Nat → State → State
  | 0, s => s
  | n + 1, s =>
    let s := s.cursorService
    if s.work.passDue then State.settleWithin n { s with work := { s.work with passDue := false } }.pass else s

/-- What the event still owes is done. -/
def State.settle (s : State) : State := State.settleWithin (s.queued + 2) s

end Sys2Proof.Machine
end

