-- ==== Sys2Proof/Machine/Retirement.lean ====
section
/-! DEFINITION. The retirement of a port over the directory, the Transaction Table, the Watch Unit and the Port Controller
(R28 to R31, R60, R61, R144, R163). The caller changes the link state in the same event, and makes the examinations once the
last retirement of the event is whole. -/

namespace Sys2Proof.Machine

/-- Why a port is retired (R163). -/
inductive Departure where
  | loss
  | fault
deriving DecidableEq, Repr

/-- The lines whose entries name the port. -/
def State.heldLines (s : State) (p : Port) : List LineNo :=
  (s.entries.filter fun e => e.holding.names p).map fun e => e.line

/-- The directory's share for one line (R28 to R30): a line that the port owned is poisoned, and the port is removed. -/
def State.stripLine (p : Port) (s : State) (line : LineNo) : State :=
  let s := if s.ownerOf line = some p then s.poison line else s
  s.changeHolding line fun h => h.removePort p

/-- The directory's share of the retirement (R28 to R30). -/
def State.stripPort (s : State) (p : Port) : State := (s.heldLines p).foldl (State.stripLine p) s

/-- The draining test is to be made again (R121). -/
def State.askDraining (s : State) : State :=
  if s.sweep.activity = .draining then { s with work := { s.work with cursorDue := true } } else s

/-- The slot's transaction is abandoned where it is the port's (R60). -/
def State.abandonSlot (p : Port) (s : State) (slot : Nat) : State :=
  match s.txn slot with
  | none => s
  | some t =>
    if t.isLiveOf p then
      let s := (s.putTxn slot { t with abandoned := true }).askDraining
      if t.phase = .granting then s.completeTxn slot else s
    else s

/-- Effect 1 (R61): the port's transactions are abandoned. -/
def State.abandonAll (s : State) (p : Port) : State :=
  (List.range Config.slotCount).foldl (State.abandonSlot p) s

/-- The slot's open member for the port is answered as if answered NONE (R61). -/
def State.answerSlot (p : Port) (s : State) (slot : Nat) : State :=
  match s.txn slot with
  | none => s
  | some t => if t.awaits p then s.answerMember slot p else s

/-- Effect 2 (R61): the port's open members are answered, in ascending slot number. -/
def State.answerAll (s : State) (p : Port) : State :=
  (List.range Config.slotCount).foldl (State.answerSlot p) s

/-- The Port Controller's share (R163): queues, marks, permit latch and the two counts. -/
def PortState.emptied (ps : PortState) : PortState :=
  { ps with
    requests := []
    headAnswering := false
    releases := []
    releaseApplied := false
    outbound := []
    waiting := []
    permit := false
    consecBad := 0
    matchCount := 0 }

/-- The notice and the port latch of a retirement (R163). -/
def State.latchDeparture (s : State) (p : Port) (d : Departure) : State :=
  match d with
  | .loss => s.latchBoth p .portLoss .loss
  | .fault => s.latchBoth p .portFault .fault

/-- The Port Controller's and the Watch Unit's shares of the retirement (R144, R163). -/
def State.depart (s : State) (p : Port) (d : Departure) : State :=
  ((s.updPort p PortState.emptied).endSessions p).latchDeparture p d

/-- The retirement of a port (R28 to R31, R60, R61, R144, R163, log 18). -/
def State.retire (s : State) (p : Port) (d : Departure) : State :=
  (((s.stripPort p).abandonAll p).answerAll p).depart p d

/-- The port's link state becomes `l`. -/
def State.setLink (s : State) (p : Port) (l : LinkState) : State := s.updPort p fun ps => { ps with link := l }

/-- A port fault (R159): a port in UP goes to FAULTED and is retired. -/
def State.portFault (s : State) (p : Port) : State := if s.isUp p then (s.retire p .fault).setLink p .faulted else s

end Sys2Proof.Machine
end

