-- ==== Sys2Proof/Machine/Taking.lean ====
section
/-! DEFINITION. The taking of releases and recall answers, and the release queue (Chapter 5, R113). -/

namespace Sys2Proof.Machine

/-- The answer to a release (R87). -/
inductive ReleaseAnswer where
  | done
  | refuse (reason : RefuseReason)
deriving DecidableEq, Repr

/-- The answer as a message, with the line as received (R87). -/
def ReleaseAnswer.msg (a : ReleaseAnswer) (line : LineField) (kind : AnsweredKind) : Msg :=
  match a with
  | .done => .done line kind
  | .refuse reason => .refuse line kind reason

/-! ## WRITEBACK, EVICT and UNLOCK -/

/-- An in-flight transaction on the line has an open member for the port (R88). -/
def State.awaitedOn (s : State) (p : Port) (line : LineNo) : Bool :=
  match s.txnOn line with
  | some e => e.2.awaits p
  | none => false

/-- A WAITING member becomes RELEASED (R90). -/
def Member.released (m : Member) : Member := if m.state = .waiting then { m with state := .released } else m

/-- The port's WAITING member on the line becomes RELEASED (R90, R92). -/
def State.releaseMember (s : State) (p : Port) (line : LineNo) : State :=
  match s.txnOn line with
  | some e => s.updTxn e.1 fun t => t.updMember p Member.released
  | none => s

/-- A line write of released data, with its watch test (R88, R95, R140). -/
def State.releaseData (s : State) (p : Port) (line : LineNo) (d : LineData) : State :=
  (s.lineWrite line d).watchTest p line .release

/-- A WRITEBACK is accepted from the owner, or from an open member (R88). -/
def State.acceptsWriteback (s : State) (p : Port) (line : LineNo) : Bool :=
  s.ownerOf line == some p || s.awaitedOn p line

/-- An accepted WRITEBACK (R88 to R90): the line write, the entry change, the member change. -/
def State.writebackOn (s : State) (p : Port) (line : LineNo) (keep : Bool) (d : LineData) : State :=
  ((s.releaseData p line d).changeHolding line fun h => if keep then h.demote p else h.removePort p).releaseMember p line

/-- The taking of a WRITEBACK (R88, R91, R102), with its answer. -/
def State.takeWriteback (s : State) (p : Port) (f : LineField) (keep : Bool) (d : LineData) : State × ReleaseAnswer :=
  match lineOf f with
  | none => (s.latchProtocol p, .refuse .notOwner)
  | some line =>
    if s.acceptsWriteback p line then (s.writebackOn p line keep d, .done)
    else (s.latchProtocol p, .refuse .notOwner)

/-- The taking of an EVICT (R92, R102). -/
def State.takeEvict (s : State) (p : Port) (f : LineField) : State :=
  match lineOf f with
  | none => s
  | some line => (s.changeHolding line fun h => h.removePort p).releaseMember p line

/-- The taking of an UNLOCK (R113, R102), with its answer. -/
def State.takeUnlock (s : State) (p : Port) (f : LineField) : State × ReleaseAnswer :=
  match lineOf f with
  | none => (s, .refuse .notLocked)
  | some line => if s.lockerOf line = some p then (s.removeLock line, .done) else (s, .refuse .notLocked)

/-! ## RECALL_ACK -/

/-- The slot of a tag (R93). -/
def tagSlot (tag : Tag) : Nat := tag.toNat / 16

/-- The open member that a RECALL_ACK matches, with its line (R93). -/
def State.matchAck (s : State) (p : Port) (f : LineField) (tag : Tag) : Option (LineNo × Member) :=
  match s.txn (tagSlot tag), lineOf f with
  | some t, some line =>
    if t.tag = tag ∧ t.line = line then
      match t.member p with
      | some m => if m.state.isOpen then some (line, m) else none
      | none => none
    else none
  | _, _ => none

/-- The answer is DATA or CLEAN: the port held the line. -/
def answerHeld : Answer → Bool
  | .data _ => true
  | .clean => true
  | .none => false

/-- The entry change of a matched answer (R96, R97). -/
def Member.answerChange (m : Member) (p : Port) (a : Answer) (h : Holding) : Holding :=
  match m.mode, m.state with
  | .invalidate, _ => h.removePort p
  | .downgrade, .waiting => if answerHeld a then h.demote p else h.removePort p
  | .downgrade, .released => h
  | .downgrade, .answered => h

/-- What a matched answer does to the array (R95, R98). -/
def State.answerData (s : State) (p : Port) (line : LineNo) (m : Member) (a : Answer) : State :=
  match a with
  | .data d => s.releaseData p line d
  | .clean => s
  | .none => if m.state = .waiting ∧ s.ownerOf line = some p then s.poison line else s

/-- A stale RECALL_ACK (R94). -/
def State.staleAck (s : State) (p : Port) : State :=
  s.updPort p fun ps => { ps with staleAcks := saturatingInc ps.staleAcks }

/-- The taking of a RECALL_ACK (R93 to R99). -/
def State.takeRecallAck (s : State) (p : Port) (f : LineField) (tag : Tag) (a : Answer) : State :=
  match s.matchAck p f tag with
  | none => s.staleAck p
  | some (line, m) =>
    ((s.answerData p line m a).changeHolding line (m.answerChange p a)).answerMember (tagSlot tag) p

/-! ## The release queue -/

/-- The release head is applied and waits for its answer. -/
def State.markApplied (s : State) (p : Port) : State := s.updPort p fun ps => { ps with releaseApplied := true }

/-- The head leaves the release queue (R85). -/
def State.popRelease (s : State) (p : Port) : State := s.updPort p fun ps => { ps with releases := ps.releases.tail }

/-- The message at the head of the release queue is taken, and its answer offered (R85, R87). -/
def State.takeRelease (s : State) (p : Port) (r : Release) : State :=
  match r with
  | .writeback f keep d =>
    let r := (s.markApplied p).takeWriteback p f keep d
    r.1.offer p (.release (r.2.msg f .writeback))
  | .evict f => ((s.markApplied p).takeEvict p f).offer p (.release (.done f .evict))
  | .unlock f =>
    let r := (s.markApplied p).takeUnlock p f
    r.1.offer p (.release (r.2.msg f .unlock))
  | .recallAck f tag a => (s.popRelease p).takeRecallAck p f tag a

/-- The release that is to be taken: the head, unless it is applied and waits for its answer (R85). -/
def State.releaseToTake (s : State) (p : Port) : Option Release :=
  if s.isUp p && !(s.port p).releaseApplied then (s.port p).releases.head? else none

/-- The head of the release queue is taken, with the examinations it starts, and then each message that reaches the head
after it (R85, R87, log 17). The number bounds the messages (log 29). -/
def State.takeFrom : Nat → State → Port → State
  | 0, s, _ => s
  | n + 1, s, p =>
    match s.releaseToTake p with
    | none => s
    | some r => State.takeFrom n (s.takeRelease p r).settle p

/-- The head of the release queue is taken, and each message that reaches the head after it. -/
def State.takeReleases (s : State) (p : Port) : State := State.takeFrom (s.port p).releases.length s p

/-! ## Arrival at the queues (R85, R86, R155, R156) -/

/-- A release joins the tail of the release queue (R85). -/
def State.joinReleases (s : State) (p : Port) (r : Release) : State :=
  s.updPort p fun ps => { ps with releases := ps.releases ++ [r] }

/-- A release frame taken in UP (R85, R86): it joins the queue and is taken where it reaches the head; in a full queue it is
discarded and the port is faulted. -/
def State.acceptRelease (s : State) (p : Port) (r : Release) : State :=
  if (s.port p).releases.length < Config.releaseDepth then
    let first := (s.port p).releases.isEmpty
    let s := s.joinReleases p r
    if first then s.takeReleases p else s
  else (s.portFault p).settle

/-- A request joins the tail of the request queue (R155). -/
def State.joinRequests (s : State) (p : Port) (r : Request) : State :=
  s.updPort p fun ps => { ps with requests := ps.requests ++ [r] }

/-- A request queue overrun (R156). -/
def State.requestOverrun (s : State) (p : Port) (r : Request) : State :=
  let s := s.updPort p fun ps => { ps with overruns := saturatingInc ps.overruns }
  let s := s.latchBoth p .overrun .overrun
  if s.hasRoom p then s.pushOut p (.refuse r.answered.1 r.answered.2 .overrun) else s

/-- A request frame taken in UP (R155, R156): it joins the queue and is examined where it reaches the head. -/
def State.acceptRequest (s : State) (p : Port) (r : Request) : State :=
  if (s.port p).requests.length < Config.requestDepth then
    let first := (s.port p).requests.isEmpty
    let s := s.joinRequests p r
    if first then (s.examineHeads p).settle else s
  else s.requestOverrun p r

end Sys2Proof.Machine
end

