-- ==== Sys2Proof/Machine/Link.lean ====
section
/-! DEFINITION. The link state machine of a Port Controller: training, qualification, entry into UP, link loss, parking and
sending (R147 to R154, R157, R158, R161, R162). -/

namespace Sys2Proof.Machine

/-- A frame is taken from the receive pair in TRAINING, QUALIFY, UP and PARKED (R149), and messages are sent (R157). -/
def LinkState.active : LinkState → Bool
  | .training => true
  | .qualify => true
  | .up => true
  | .parked => true
  | .disabled => false
  | .down => false
  | .faulted => false

/-! ## Training (R148, R151) -/

/-- In TRAINING with an empty outbound queue, TRAIN is placed with the pattern as it stands (R151). -/
def State.keepTrain (s : State) (p : Port) : State :=
  if (s.port p).link = .training ∧ (s.port p).outbound = [] then s.offer p (.plain (.train s.tpat)) else s

/-- The port enters TRAINING, its match count at 0 (R151). -/
def State.enterTraining (s : State) (p : Port) : State :=
  (s.updPort p fun ps => { ps with link := .training, matchCount := 0 }).keepTrain p

/-- The test of R148: a port in DOWN that is enabled, with signal present and initialisation done, goes to TRAINING. -/
def State.trainTest (s : State) (p : Port) : State :=
  if (s.port p).link = .down ∧ (s.port p).enable = true ∧ (s.port p).signal = true ∧ s.init = .ready then s.enterTraining p
  else s

/-- The outbound queue and wait list are emptied (R147, R148, R153, R158, R164). -/
def PortState.dropOutbound (ps : PortState) : PortState := { ps with outbound := [], waiting := [] }

/-- The pending label and the qualify start are cleared. -/
def PortState.dropSession (ps : PortState) : PortState := { ps with pendingLabel := none, qualifyStart := none }

/-- A port leaves TRAINING or QUALIFY for DOWN (R147, R148, R164). -/
def State.leaveBringUp (s : State) (p : Port) : State :=
  s.updPort p fun ps => { ps.dropOutbound.dropSession with matchCount := 0, link := .down }

/-- A port in QUALIFY goes back to TRAINING (R153). -/
def State.backToTraining (s : State) (p : Port) : State :=
  (s.updPort p fun ps => ps.dropOutbound.dropSession).enterTraining p

/-- The message is a TRAIN. -/
def Msg.isTrain : Msg → Bool
  | .train _ => true
  | .fill _ _ _ _ _ => false
  | .grant _ _ => false
  | .done _ _ => false
  | .refuse _ _ _ => false
  | .recall _ _ _ => false
  | .lockBroken _ => false
  | .swept => false
  | .hello _ => false
  | .parked => false
  | .parkRefused _ => false
  | .awake => false

/-- The port enters QUALIFY (R152): the unsent TRAIN is withdrawn, HELLO is placed, the qualify start is now. -/
def State.enterQualify (s : State) (p : Port) : State :=
  (s.updPort p fun ps => { ps with
    link := .qualify
    outbound := ps.outbound.filter fun m => !m.isTrain
    qualifyStart := some s.now
    pendingLabel := none }).offer p (.plain (.hello p))

/-- A matching ECHO raises the match count, and any other clears it; the sixteenth ends training (R151). -/
def State.echoMatch (s : State) (p : Port) (pattern : Byte) : State :=
  let n := if pattern = s.tpat then (s.port p).matchCount + 1 else 0
  let s := s.updPort p fun ps => { ps with matchCount := n }
  if Config.matchLimit ≤ n then s.enterQualify p else s

/-! ## Qualification (R153, R154) -/

/-- The port enters UP with its pending label (R154). -/
def State.enterUp (s : State) (p : Port) (label : BitVec 16) : State :=
  (s.updPort p fun ps => { ps.dropSession with link := .up, label := label, consecBad := 0 }).latchBoth p .portUp .up

/-- The qualification time has passed from the start (R153). -/
def State.qualified (s : State) (p : Port) : Bool :=
  match (s.port p).qualifyStart with
  | some start => decide (start + Config.qualificationTime ≤ s.now)
  | none => false

/-- An agent HELLO taken in QUALIFY (R153). -/
def State.takeHello (s : State) (p : Port) (label : BitVec 16) : State :=
  if s.qualified p then s.enterUp p label
  else s.updPort p fun ps => { ps with pendingLabel := some label }

/-- The qualification time passes (R153): with a pending label the port goes to UP, without one it stays. -/
def State.passQualification (s : State) (p : Port) : State :=
  match (s.port p).pendingLabel with
  | some label => s.enterUp p label
  | none => s

/-! ## Link loss (R158) -/

/-- Link loss of a port in PARKED: no retirement (R158). -/
def State.loseParked (s : State) (p : Port) : State :=
  (s.updPort p fun ps => { ps.dropOutbound with link := .down, consecBad := 0, matchCount := 0 }).latchBoth p .portLoss .loss

/-- Link loss (R158), with the passage on to TRAINING where it can be made (R148). -/
def State.linkLoss (s : State) (p : Port) : State :=
  if (s.port p).link = .parked then (s.loseParked p).trainTest p
  else (((s.retire p .loss).setLink p .down).trainTest p).settle

/-! ## Frames (R149, R150) -/

/-- A bad frame is counted (R149). -/
def State.countBad (s : State) (p : Port) : State :=
  s.updPort p fun ps => { ps with badFrames := saturatingInc ps.badFrames }

/-- A bad frame in UP or PARKED: the consecutive count rises, and the fourth in a row loses the link (R149, R158). -/
def State.badInRow (s : State) (p : Port) : State :=
  let s := s.updPort p fun ps => { ps with consecBad := ps.consecBad + 1 }
  if Config.badFrameLimit ≤ (s.port p).consecBad then s.linkLoss p else s

/-- A good frame in UP or PARKED sets the consecutive-bad-frame count to 0 (R149, log 20). -/
def State.goodFrame (s : State) (p : Port) : State := s.updPort p fun ps => { ps with consecBad := 0 }

/-- A request or release frame by link state (Table 9-3); `f` takes it in UP. -/
def State.messageFrame (s : State) (p : Port) (f : State → State) : State :=
  match (s.port p).link with
  | .up => f (s.goodFrame p)
  | .qualify => s.latchProtocol p
  | .parked => s.goodFrame p
  | .training => s
  | .disabled => s
  | .down => s
  | .faulted => s

/-- The match count is set to 0 (R151). -/
def State.clearMatch (s : State) (p : Port) : State := s.updPort p fun ps => { ps with matchCount := 0 }

/-! ## Parking (R161, R162) -/

/-- A transaction in flight names the port as requester, and is not abandoned, or has a member for it (R161). -/
def State.namedInTxn (s : State) (p : Port) : Bool :=
  s.txns.any fun e => (e.2.requester == some p && !e.2.abandoned) || (e.2.member p).isSome

/-- The port's queues and its wait list are all empty (R161). -/
def PortState.quiet (ps : PortState) : Bool :=
  ps.requests.isEmpty && ps.releases.isEmpty && ps.outbound.isEmpty && ps.waiting.isEmpty

/-- Why a PARK would be refused: HOLDINGS, else ACTIVE, else not at all (R161). -/
def State.parkRefusal (s : State) (p : Port) : Option ParkReason :=
  if s.holdingCount p ≠ 0 ∨ s.lockCount p ≠ 0 then some .holdings
  else if s.namedInTxn p || !(s.port p).quiet then some .active
  else none

/-- The offer is a PARK_REFUSED. -/
def Offer.isParkRefused : Offer → Bool
  | .plain (.parkRefused _) => true
  | _ => false

/-- A PARK taken in UP (R161). -/
def State.takePark (s : State) (p : Port) : State :=
  match s.parkRefusal p with
  | none => (s.updPort p fun ps => { ps with link := .parked, permit := false }).offer p (.plain .parked)
  | some reason =>
    if (s.port p).waiting.any Offer.isParkRefused then s else s.offer p (.plain (.parkRefused reason))

/-- A WAKE taken in PARKED (R162). -/
def State.takeWake (s : State) (p : Port) : State := (s.setLink p .up).offer p (.plain .awake)

/-! ## Sending (R157) -/

/-- The oldest message leaves the outbound queue. -/
def PortState.sendOldest (ps : PortState) : PortState := { ps with outbound := ps.outbound.tail }

/-- The oldest offer leaves the wait list. -/
def PortState.dropWaiting (ps : PortState) : PortState := { ps with waiting := ps.waiting.tail }

/-- What follows the placing of a waiting message: the next request or release reaches its head (R44, R45, R85). -/
def State.followPlacing (s : State) (p : Port) (o : Offer) : State :=
  match o with
  | .head _ => s.examineHeads p
  | .release _ => s.takeReleases p
  | .grant _ => s
  | .recall _ _ _ _ => s
  | .plain _ => s

/-- The freed place is handed to the oldest message on the wait list (R53, R157). -/
def State.handPlace (s : State) (p : Port) : State :=
  match (s.port p).waiting with
  | [] => s
  | o :: _ => (((s.updPort p PortState.dropWaiting).place p o).followPlacing p o).settle

/-- The oldest message of the outbound queue has left on the link (R157). -/
def State.sent (s : State) (p : Port) : State :=
  ((s.updPort p PortState.sendOldest).handPlace p).keepTrain p

end Sys2Proof.Machine
end

