-- ==== Sys2Proof/Machine/LinkEvents.lean ====
section
/-! DEFINITION. The link events of one port: signal, frames of the link state machine, and the sending of messages (R148 to
R153, R157, R161, R162). -/

namespace Sys2Proof.Machine

/-- The receiver's report of signal (R148). -/
def State.setSignal (s : State) (p : Port) (b : Bool) : State := s.updPort p fun ps => { ps with signal := b }

/-- SIGNAL_PRESENT (R148). -/
def execSignalPresent (p : Port) (s : State) : Host.Outcome State Fault Refusal :=
  .next ((s.setSignal p true).trainTest p)

/-- What the loss of signal does, by link state (R148). -/
def State.signalGone (s : State) (p : Port) : State :=
  match (s.port p).link with
  | .training => s.leaveBringUp p
  | .qualify => s.leaveBringUp p
  | .up => s.linkLoss p
  | .parked => s.linkLoss p
  | .down => s
  | .disabled => s
  | .faulted => s

/-- SIGNAL_LOST (R148, R158). -/
def execSignalLost (p : Port) (s : State) : Host.Outcome State Fault Refusal :=
  .next ((s.setSignal p false).signalGone p)

/-- What a bad frame does, by link state (Table 9-3). -/
def State.takeBadFrame (s : State) (p : Port) : State :=
  match (s.port p).link with
  | .training => (s.countBad p).clearMatch p
  | .qualify => (s.countBad p).backToTraining p
  | .up => (s.countBad p).badInRow p
  | .parked => (s.countBad p).badInRow p
  | .down => s
  | .disabled => s
  | .faulted => s

/-- BAD_FRAME (R149, R150). -/
def execBadFrame (p : Port) (s : State) : Host.Outcome State Fault Refusal := .next (s.takeBadFrame p)

/-- What a malformed frame does, by link state (Table 9-3). -/
def State.takeMalformed (s : State) (p : Port) : State :=
  match (s.port p).link with
  | .training => s.clearMatch p
  | .qualify => s.latchProtocol p
  | .up => (s.goodFrame p).latchProtocol p
  | .parked => s.goodFrame p
  | .down => s
  | .disabled => s
  | .faulted => s

/-- MALFORMED_FRAME (R149, R150). -/
def execMalformedFrame (p : Port) (s : State) : Host.Outcome State Fault Refusal := .next (s.takeMalformed p)

/-- ECHO (R151, Table 9-3). -/
def execEcho (p : Port) (pattern : Byte) (s : State) : Host.Outcome State Fault Refusal :=
  match (s.port p).link with
  | .training => .next (s.echoMatch p pattern)
  | .qualify => .next s
  | .up => .next (s.goodFrame p)
  | .parked => .next (s.goodFrame p)
  | .down => .next s
  | .disabled => .next s
  | .faulted => .next s

/-- HELLO from the agent (R153, Table 9-3). -/
def execHello (p : Port) (label : BitVec 16) (s : State) : Host.Outcome State Fault Refusal :=
  match (s.port p).link with
  | .training => .next s
  | .qualify => .next (s.takeHello p label)
  | .up => .next ((s.goodFrame p).latchProtocol p)
  | .parked => .next (s.goodFrame p)
  | .down => .next s
  | .disabled => .next s
  | .faulted => .next s

/-- PARK (R161, Table 9-3). -/
def execPark (p : Port) (s : State) : Host.Outcome State Fault Refusal :=
  match (s.port p).link with
  | .training => .next s
  | .qualify => .next s
  | .up => .next ((s.goodFrame p).takePark p)
  | .parked => .next (s.goodFrame p)
  | .down => .next s
  | .disabled => .next s
  | .faulted => .next s

/-- WAKE (R162, Table 9-3). -/
def execWake (p : Port) (s : State) : Host.Outcome State Fault Refusal :=
  match (s.port p).link with
  | .training => .next s
  | .qualify => .next s
  | .up => .next (s.goodFrame p)
  | .parked => .next ((s.goodFrame p).takeWake p)
  | .down => .next s
  | .disabled => .next s
  | .faulted => .next s

/-- MESSAGE_SENT (R157). With nothing placed, nothing can have left, and nothing changes (log 5). -/
def execMessageSent (p : Port) (s : State) : Host.Outcome State Fault Refusal :=
  if (s.port p).link.active && !(s.port p).outbound.isEmpty then .next (s.sent p) else .next s

end Sys2Proof.Machine
end

