-- ==== Sys2Proof/Machine/Reset.lean ====
section
/-! DEFINITION. RESET_N, the array's initialisation, and the soft reset (R10 to R12, R33, R34, R63, R117, R128, R145, R146,
R164, R175). -/

namespace Sys2Proof.Machine

/-- The test of R148 for every port, in ascending number. -/
def State.trainTests (s : State) : State := Port.all.foldl State.trainTest s

/-! ## RESET_N and initialisation -/

/-- Every block in its reset state; the receivers' reports, the time and the queue of commands are not the hub's to reset
(log 6, log 9). -/
def State.hardReset (s : State) : State :=
  { State.reset with
    now := s.now
    ports := s.ports.map fun ps => PortState.reset ps.signal
    draws := s.draws
    pending := s.pending }

/-- Initialisation begins (R10): CECNT is set to 0. -/
def State.startInitialisation (s : State) : State :=
  { s with init := .initialising s.now, sma := { s.sma with cecnt := 0 } }

/-- Initialisation completes (R10, R11): the array is all-zero and GOOD, INIT_DONE is latched, the links are released. -/
def State.finishInitialisation (s : State) : State :=
  ({ s with init := .ready, sma := s.sma.cleared }.latch .initDone).trainTests

/-- RESET_N (R33, R63). -/
def execResetN (s : State) : Host.Outcome State Fault Refusal := .next s.hardReset

/-- INITIALISATION_START (R10): reset ends. Where no reset is in force it cannot end, and nothing changes (log 5). -/
def execInitialisationStart (s : State) : Host.Outcome State Fault Refusal :=
  match s.init with
  | .resetLow => .next s.startInitialisation
  | .initialising _ => .next s
  | .ready => .next s

/-- INIT_DONE (R10, R11). Where no initialisation runs none can complete, and nothing changes (log 5). -/
def execInitDone (s : State) : Host.Outcome State Fault Refusal :=
  match s.init with
  | .resetLow => .next s
  | .initialising _ => .next s.finishInitialisation
  | .ready => .next s

/-! ## Soft reset (R175) -/

/-- A management command acts except while RESET_N is low, when transfers have no effect (R165). -/
def State.managed (s : State) (f : State → State) : State :=
  match s.init with
  | .resetLow => s
  | .initialising _ => f s
  | .ready => f s

/-- The soft reset retires a port that is not DISABLED, as any retirement is made (R61, R163, R164): a transaction that its
answer as NONE ends may complete, or be granted to a port that is retired later and whose line is poisoned then. Of such a
grant only the line read and the watch test are left out: the array keeps all but what the retirement poisons (R12), and the
hit flags and the capture are kept (R145). That R12 and R145 go before R57 here is the model's reading (log 23). -/
def State.softRetire (s : State) (p : Port) : State :=
  if (s.port p).link = .disabled then s
  else { s.retire p .loss with sma := (s.stripPort p).sma, watch := (s.endSessions p).watch }.updPort p fun ps =>
    { ps.dropSession with link := .down }

/-- A Port Controller after a soft reset (Table 9-1), before the test of R148. -/
def PortState.softReset (ps : PortState) : PortState :=
  { PortState.reset ps.signal with
    enable := ps.enable
    link := if ps.link = .disabled then .disabled else .down }

/-- What the soft reset clears once the ports are retired (R12, R34, R63, R128, R145, R175, Table 9-1). -/
def State.softClear (s : State) : State :=
  { s.endAllSessions with
    sma := { s.sma with cecnt := 0 }
    dir := []
    txns := []
    seqs := []
    lastAdmitted := .P3
    ports := s.ports.map PortState.softReset
    sweep := Sweep.reset
    nstat := 0
    nmask := 0
    insp := Insp.reset
    work := ⟨false, false⟩ }

/-- The soft reset, with the EXCL value of the write that takes it (R175). The order of its parts is log 23. -/
def State.softReset (s : State) (excl : Bool) : State :=
  ((Port.all.foldl State.softRetire { s with excl := excl }).softClear).trainTests

/-- SOFT_RESET (R175). -/
def execSoftReset (excl : Bool) (s : State) : Host.Outcome State Fault Refusal :=
  .next (s.managed fun s => s.softReset excl)

end Sys2Proof.Machine
end

