-- ==== Sys2Proof/Machine/Timers.lean ====
section
/-! DEFINITION. The timers that run, the latest moment at which each runs out, what a running out does, and how the time moves
on without passing one (R10, R54 to R56, R110, R111, R153). -/

namespace Sys2Proof.Machine

/-! ## What runs -/

/-- A timer of the hub. -/
inductive Timer where
  /-- The array's initialisation (R10). -/
  | initialisation
  /-- The recall deadline of the slot's member for the port (R54). -/
  | recall (slot : Nat) (p : Port)
  /-- The lifetime of the line's lock (R110). -/
  | lock (line : LineNo)
  /-- The qualification time of the port (R153). -/
  | qualification (p : Port)
  /-- The HELLO limit of the port (R153). -/
  | helloLimit (p : Port)
deriving DecidableEq, Repr

/-- The open member of the slot's transaction for the port, with its deadline. -/
def State.runningMember (s : State) (slot : Nat) (p : Port) : Option (Txn × Member × Nat) :=
  match s.txn slot with
  | none => none
  | some t =>
    match t.member p with
    | none => none
    | some m =>
      match m.deadline with
      | none => none
      | some d => if m.state.isOpen then some (t, m, d) else none

/-- The line's lock: its owner and its deadline. -/
def State.lockOn (s : State) (line : LineNo) : Option (Port × Nat) :=
  match s.lookup line with
  | none => none
  | some e =>
    match e.holding with
    | .owned p (some d) => some (p, d)
    | .owned _ none => none
    | .shared _ => none
    | .empty => none

/-- The start of the port's QUALIFY, while it is in it (R152). -/
def State.qualifying (s : State) (p : Port) : Option Nat :=
  if (s.port p).link = .qualify then (s.port p).qualifyStart else none

/-- The moment from which a timer that runs may run out. The HELLO limit runs only where there is no pending label (R153),
and initialisation may end at any time from its start (R10). -/
def State.moment (s : State) (x : Timer) : Option Nat :=
  match x with
  | .initialisation => match s.init with
    | .initialising start => some start
    | .resetLow => none
    | .ready => none
  | .recall slot p => (s.runningMember slot p).map fun r => r.2.2
  | .lock line => (s.lockOn line).map fun l => l.2
  | .qualification p => (s.qualifying p).map (· + Config.qualificationTime)
  | .helloLimit p => if (s.port p).pendingLabel.isNone then (s.qualifying p).map (· + Config.helloLimit) else none

/-- Initialisation, where it runs, with its latest end (R10). -/
def State.initTimer (s : State) : Option (Nat × Timer) :=
  match s.init with
  | .initialising start => some (start + Config.initialisationTime, .initialisation)
  | .resetLow => none
  | .ready => none

/-- The recall deadlines that run in a slot, each with its latest moment (R56). -/
def recallTimers (e : Nat × Txn) : List (Nat × Timer) :=
  e.2.awaited.filterMap fun m =>
    if m.state.isOpen then m.deadline.map fun d => (d + Config.timerSlack, .recall e.1 m.port) else none

/-- The lock of an entry, with the latest moment of its expiry (R110). -/
def Entry.lockTimer (e : Entry) : Option (Nat × Timer) :=
  e.holding.lock.map fun d => (d + Config.timerSlack, .lock e.line)

/-- The time that runs for a port in QUALIFY, with its latest moment: with a pending label the qualification time, without
one the HELLO limit, since the qualification time changes nothing then (R153). -/
def State.portTimer (s : State) (p : Port) : Option (Nat × Timer) :=
  match s.qualifying p, (s.port p).pendingLabel with
  | some start, some _ => some (start + Config.qualificationTime + Config.timerSlack, .qualification p)
  | some start, none => some (start + Config.helloLimit + Config.timerSlack, .helloLimit p)
  | none, _ => none

/-- The timers that run, each with the latest moment at which it runs out: initialisation, the recall deadlines by slot, the
locks by set and recency, the ports' times. -/
def State.timers (s : State) : List (Nat × Timer) :=
  s.initTimer.toList ++ s.txns.flatMap recallTimers ++ s.entries.filterMap Entry.lockTimer ++
    Port.all.filterMap s.portTimer

/-- The earliest of some moments, and of equal ones the first listed (log 3). -/
def earliest : List (Nat × Timer) → Option (Nat × Timer)
  | [] => none
  | x :: l =>
    match earliest l with
    | none => some x
    | some y => if y.1 < x.1 then some y else some x

/-- The first timer whose latest moment comes before the time `t`. -/
def State.overdue (s : State) (t : Nat) : Option (Nat × Timer) := earliest (s.timers.filter fun x => decide (x.1 < t))

/-! ## What a running out does -/

/-- A deadline runs out at attempt 1 (R54): the attempt becomes 2, and a second RECALL is offered. -/
def State.recallAgain (s : State) (slot : Nat) (t : Txn) (p : Port) (m : Member) : State :=
  (s.updTxn slot fun t => t.updMember p fun m => { m with second := true, deadline := none }).offer p
    (.recall slot t.line t.tag m.mode)

/-- A recall deadline runs out: at attempt 1 the RECALL is sent again (R54), at attempt 2 the port is faulted (R55). -/
def State.passDeadline (s : State) (slot : Nat) (p : Port) : State :=
  match s.runningMember slot p with
  | none => s
  | some (t, m, _) => if m.second then (s.portFault p).settle else s.recallAgain slot t p m

/-- A lock's expiry (R111): the lock goes, NOTICE LOCK_BROKEN is offered, LOCK_BROKEN is latched, and the held requests are
examined. -/
def State.expireLock (s : State) (line : LineNo) : State :=
  match s.lockOn line with
  | none => s
  | some (p, _) => (((s.removeLock line).offer p (.plain (.lockBroken line))).latch .lockBroken).settle

/-- A timer runs out. -/
def State.runOut (s : State) (x : Timer) : State :=
  match x with
  | .initialisation => s.finishInitialisation
  | .recall slot p => s.passDeadline slot p
  | .lock line => s.expireLock line
  | .qualification p => s.passQualification p
  | .helloLimit p => s.backToTraining p

/-! ## The time moves on -/

/-- The time moves on to `t`. Every timer whose latest moment comes before `t` runs out at that moment, the earliest first,
so that the time passes none (R56, R110, R153, log 4). The number bounds the timers (log 29). -/
def State.passTime : Nat → Nat → State → State
  | 0, _, s => s
  | n + 1, t, s =>
    match s.overdue t with
    | none => s.atLeast t
    | some x => State.passTime n t ((s.atLeast x.1).runOut x.2)

/-- The timer runs out where it runs and its moment has come. -/
def State.runOutDue (s : State) (x : Timer) : State :=
  match s.moment x with
  | none => s
  | some d => if d ≤ s.now then s.runOut x else s

/-- A timer's command: the time moves on to the timer's moment, where it is still earlier, and the timer runs out. A timer
that does not run cannot run out, and nothing changes (log 4). -/
def State.timerCommand (s : State) (x : Timer) : State :=
  match s.moment x with
  | none => s
  | some d => (State.passTime Config.timerBound d s).runOutDue x

/-! ## The commands -/

/-- RECALL_TIMEOUT (R54, R55). -/
def execRecallTimeout (slot : BitVec 4) (p : Port) (s : State) : Host.Outcome State Fault Refusal :=
  .next (s.timerCommand (.recall slot.toNat p))

/-- LOCK_EXPIRY (R111). -/
def execLockExpiry (line : LineNo) (s : State) : Host.Outcome State Fault Refusal := .next (s.timerCommand (.lock line))

/-- QUALIFICATION_TIME (R153). -/
def execQualificationTime (p : Port) (s : State) : Host.Outcome State Fault Refusal :=
  .next (s.timerCommand (.qualification p))

/-- HELLO_LIMIT (R153). -/
def execHelloLimit (p : Port) (s : State) : Host.Outcome State Fault Refusal := .next (s.timerCommand (.helloLimit p))

end Sys2Proof.Machine
end

