-- ==== Sys2Proof/Machine/Clock.lean ====
section
/-! DEFINITION. Time while no command waits: a timer that has reached its latest moment runs out; where none has, one
microsecond passes (log 2, log 3). -/

namespace Sys2Proof.Machine

/-- The command that a timer's running out is. -/
def Timer.command : Timer → Instr
  | .initialisation => .initDone
  | .recall slot p => .recallTimeout (BitVec.ofNat 4 slot) p
  | .lock line => .lockExpiry line
  | .qualification p => .qualificationTime p
  | .helloLimit p => .helloLimit p

/-- The running out of the first timer that has reached its latest moment (R10, R56, R110, R153). -/
def State.due (s : State) : Option Instr := (s.overdue (s.now + 1)).map fun x => x.2.command

/-- One microsecond passes. -/
def State.tick (s : State) : State := { s with now := s.now + 1 }

end Sys2Proof.Machine
end

