-- ==== Sys2Proof/Machine/Inspect.lean ====
section
/-! DEFINITION. The Inspect Window's commands and the layout of their results (R9, R32, R62, R176, R177, R183). -/

namespace Sys2Proof.Machine

/-! ## Result layouts (Table 11-7) -/

/-- A value at a bit position of a register or a result. -/
def fieldAt {w : Nat} (pos v : Nat) : BitVec w := BitVec.ofNat w v <<< pos

/-- A bit at a position. -/
def bitAt {w : Nat} (pos : Nat) (b : Bool) : BitVec w := fieldAt pos b.toNat

/-- A present bit with its value above it; absent, both read 0. -/
def optionAt {w : Nat} (pos : Nat) (v : Option Nat) : BitVec w :=
  match v with
  | some n => bitAt pos true ||| fieldAt (pos + 1) n
  | none => 0

/-- The code of a holding. -/
def Holding.code : Holding → Nat
  | .empty => 0
  | .shared _ => 1
  | .owned _ _ => 2

/-- The sharers as four bits. -/
def Holding.sharerBits : Holding → BitVec 4
  | .shared ps => PortSet.toBits ps
  | .empty => 0
  | .owned _ _ => 0

/-- What remains until a deadline, in whole units, rounded down, 0 to 255; an overdue deadline has 0 left (log 31). -/
def remaining (now deadline unit : Nat) : Nat := min 255 ((deadline - now) / unit)

/-- An entry's recency position in its set (R21). -/
def State.recencyOf (s : State) (line : LineNo) : Nat :=
  (s.setEntries (setOf line)).findIdx fun e => e.line == line

/-- The lock of an entry in a DIR_READ result: present bit, locking port, remaining lifetime in ms. -/
def lockField (now : Nat) (h : Holding) : BitVec 128 :=
  match h with
  | .owned p (some d) => bitAt 25 true ||| fieldAt 26 p.number ||| fieldAt 28 (remaining now d Config.lktUnit)
  | .owned _ none => 0
  | .shared _ => 0
  | .empty => 0

/-- The result of a DIR_READ that hits (R32, Table 11-7). -/
def State.dirResult (s : State) (e : Entry) : BitVec 128 :=
  fieldAt 0 e.line.toNat ||| fieldAt 12 e.way ||| fieldAt 14 (s.recencyOf e.line) ||| fieldAt 16 e.holding.code |||
    optionAt 18 (e.holding.owner.map Port.number) ||| fieldAt 21 e.holding.sharerBits.toNat |||
    lockField s.now e.holding ||| optionAt 36 e.busy

/-- The code of a transaction kind. -/
def TxnKind.code : TxnKind → Nat
  | .fetchShared => 0
  | .fetchOwn => 1
  | .upgrade => 2
  | .lockFetch => 3
  | .victim => 4
  | .sweep => 5

/-- The code of a phase. -/
def Phase.code : Phase → Nat
  | .waitWay => 0
  | .recalling => 1
  | .granting => 2

/-- The code of a recall mode. -/
def RecallMode.code : RecallMode → Nat
  | .invalidate => 0
  | .downgrade => 1

/-- The code of a member's answer state. -/
def MemberState.code : MemberState → Nat
  | .waiting => 0
  | .released => 1
  | .answered => 2

/-- A member's sixteen bits in the high half of a TXN_READ result. -/
def Member.field (now : Nat) (m : Member) : Reg16 :=
  bitAt 0 true ||| fieldAt 1 m.mode.code ||| fieldAt 2 m.state.code ||| bitAt 4 m.second |||
    optionAt 5 (m.deadline.map fun d => remaining now d Config.rtoUnit)

/-- The bits of the transaction's member for a port; all 0 where the port is no member. -/
def Txn.memberField (now : Nat) (t : Txn) (p : Port) : Reg16 :=
  match t.member p with
  | some m => m.field now
  | none => 0

/-- The low half of a TXN_READ result for a slot in flight. -/
def Txn.lowHalf (t : Txn) : BitVec 64 :=
  fieldAt 0 t.tag.toNat ||| fieldAt 8 t.kind.code ||| fieldAt 11 t.line.toNat |||
    optionAt 23 (t.word.map fun w => w.toNat) ||| optionAt 27 (t.requester.map Port.number) |||
    fieldAt 30 t.phase.code ||| bitAt 32 t.abandoned ||| optionAt 33 t.partner ||| bitAt 38 t.grantPending

/-- The result of a TXN_READ of a slot in flight (R62, Table 11-7). -/
def Txn.result (now : Nat) (t : Txn) : BitVec 128 :=
  t.memberField now .P3 ++ t.memberField now .P2 ++ t.memberField now .P1 ++ t.memberField now .P0 ++ t.lowHalf

/-- The code of a condition. -/
def Condition.code : Condition → Nat
  | .good => 0
  | .poisoned => 1

/-- The result of SM_READ and SM_WRITE: the word and the line's condition. -/
def wordResult (w : Word) (c : Condition) : BitVec 128 := fieldAt 0 w.toNat ||| fieldAt 32 c.code

/-! ## The window (R176) -/

/-- The write to INSP_CMD stores the half field. -/
def State.storeHalf (s : State) (high : Bool) : State := { s with insp := { s.insp with high := high } }

/-- A taken command ends: it replaces INSP_STAT and the whole result. -/
def State.endInspect (s : State) (code : InspCode) (status : InspStatus) (result : BitVec 128) : State :=
  { s with insp := { s.insp with code := code, status := status, result := result } }

/-- How many values of INSP_ADDR a command accepts. -/
def InspCode.addresses : InspCode → Nat
  | .none => 65536
  | .dirRead => 4096
  | .clearPoison => 4096
  | .smRead => 32768
  | .smWrite => 32768
  | .txnRead => 16

/-- The line that INSP_ADDR names, where it is read as a line number. -/
def State.inspLine (s : State) : LineNo := s.insp.addr.truncate 12

/-- The line that INSP_ADDR names, where it is read as line × 8 + word. -/
def State.inspWordLine (s : State) : LineNo := s.insp.addr.extractLsb' 3 12

/-- The word that INSP_ADDR names, where it is read as line × 8 + word. -/
def State.inspWord (s : State) : Nat := s.insp.addr.toNat % 8

/-- The slot that INSP_ADDR names. -/
def State.inspSlot (s : State) : Nat := s.insp.addr.toNat

/-- The line has a directory entry, or an in-flight transaction names it (R176). -/
def State.lineHeld (s : State) (line : LineNo) : Bool := (s.lookup line).isSome || (s.txnOn line).isSome

/-- The command is HELD off the line it addresses (R176). -/
def State.inspHeld (s : State) (code : InspCode) : Bool :=
  match code with
  | .smWrite => s.lineHeld s.inspWordLine
  | .clearPoison => s.lineHeld s.inspLine
  | .none => false
  | .dirRead => false
  | .txnRead => false
  | .smRead => false

/-- The SMA initialises. -/
def InitPhase.running : InitPhase → Bool
  | .initialising _ => true
  | .resetLow => false
  | .ready => false

/-- The first of the outcomes BUSY, BAD_ADDRESS and HELD that applies (R176). -/
def State.inspRefusal (s : State) (code : InspCode) : Option InspStatus :=
  if s.init.running then some .busy
  else if code.addresses ≤ s.insp.addr.toNat then some .badAddress
  else if s.inspHeld code then some .held
  else none

/-- A completed write to INSP_CMD with a command (R176): the half field, then the command, carried out by `act` unless it
ends BUSY, BAD_ADDRESS or HELD. -/
def State.inspect (s : State) (high : Bool) (code : InspCode) (act : State → State) : State :=
  let s := s.storeHalf high
  match s.inspRefusal code with
  | some status => s.endInspect code status 0
  | none => act s

/-! ## The commands (R177) -/

/-- DIR_READ carried out (R32). -/
def State.readDirectory (s : State) : State :=
  match s.lookup s.inspLine with
  | none => s.endInspect .dirRead .noEntry 0
  | some e => s.endInspect .dirRead .ok (s.dirResult e)

/-- TXN_READ carried out (R62). -/
def State.readSlot (s : State) : State :=
  match s.txn s.inspSlot with
  | none => s.endInspect .txnRead .free (fieldAt 0 (s.seq s.inspSlot))
  | some t => s.endInspect .txnRead .ok (t.result s.now)

/-- A command on a word ends: the word and the condition as they then stand. -/
def State.endWord (s : State) (code : InspCode) : State :=
  s.endInspect code .ok (wordResult (s.sma.word s.inspWordLine s.inspWord) (s.sma.cond s.inspWordLine))

/-- SM_READ carried out (R9). -/
def State.readWord (s : State) : State := (s.wordRead s.inspWordLine s.inspWord).endWord .smRead

/-- SM_WRITE carried out (R9). -/
def State.writeWord (s : State) : State :=
  (s.wordWrite s.inspWordLine s.inspWord (s.insp.w1 ++ s.insp.w0)).endWord .smWrite

/-- CLEAR_POISON carried out (R9). -/
def State.clearPoison (s : State) : State := (s.unpoison s.inspLine).endInspect .clearPoison .ok 0

/-- VIEW (R176). -/
def execView (high : Bool) (s : State) : Host.Outcome State Fault Refusal := .next (s.managed fun s => s.storeHalf high)

/-- DIR_READ (R32, R176). -/
def execDirRead (high : Bool) (s : State) : Host.Outcome State Fault Refusal :=
  .next (s.managed fun s => s.inspect high .dirRead State.readDirectory)

/-- TXN_READ (R62, R176). -/
def execTxnRead (high : Bool) (s : State) : Host.Outcome State Fault Refusal :=
  .next (s.managed fun s => s.inspect high .txnRead State.readSlot)

/-- SM_READ (R9, R176). -/
def execSmRead (high : Bool) (s : State) : Host.Outcome State Fault Refusal :=
  .next (s.managed fun s => s.inspect high .smRead State.readWord)

/-- SM_WRITE (R9, R176). -/
def execSmWrite (high : Bool) (s : State) : Host.Outcome State Fault Refusal :=
  .next (s.managed fun s => s.inspect high .smWrite State.writeWord)

/-- CLEAR_POISON (R9, R176). -/
def execClearPoison (high : Bool) (s : State) : Host.Outcome State Fault Refusal :=
  .next (s.managed fun s => s.inspect high .clearPoison State.clearPoison)

end Sys2Proof.Machine
end

