-- ==== Sys2Proof/Machine/PortControl.lean ====
section
/-! DEFINITION. The supervisor's commands to the ports: enables, port reset, clear-fault (R147, R160, R164, R171, R173). -/

namespace Sys2Proof.Machine

/-- One port's enable is set (R147). -/
def State.enablePort (s : State) (p : Port) : State :=
  if (s.port p).link = .disabled then
    (s.updPort p fun ps => { ps with enable := true, link := .down }).trainTest p
  else s

/-- The port's enable is cleared, and its link is DISABLED. -/
def State.turnOff (s : State) (p : Port) : State := s.updPort p fun ps => { ps with enable := false, link := .disabled }

/-- One port's enable is cleared (R147): an UP port is retired, and what is queued in the other states is emptied. -/
def State.disablePort (s : State) (p : Port) : State :=
  match (s.port p).link with
  | .up => (s.retire p .loss).turnOff p
  | .training => (s.leaveBringUp p).turnOff p
  | .qualify => (s.leaveBringUp p).turnOff p
  | .parked => (s.updPort p PortState.dropOutbound).turnOff p
  | .down => s.turnOff p
  | .faulted => s.turnOff p
  | .disabled => s

/-- The ports of a four-bit mask, in ascending number (R171). -/
def portsOf (b : BitVec 4) : List Port := PortSet.toList (PortSet.ofBits b)

/-- PORT_ENABLE_SET (R147, R171). -/
def execPortEnableSet (ports : BitVec 4) (s : State) : Host.Outcome State Fault Refusal :=
  .next (s.managed fun s => (portsOf ports).foldl State.enablePort s)

/-- PORT_ENABLE_CLEAR (R147, R163, R171): the examinations follow the last retirement. -/
def execPortEnableClear (ports : BitVec 4) (s : State) : Host.Outcome State Fault Refusal :=
  .next (s.managed fun s => ((portsOf ports).foldl State.disablePort s).settle)

/-- A port reset, by the port's state (R164). -/
def State.resetPort (s : State) (p : Port) : State :=
  match (s.port p).link with
  | .up => (((s.retire p .loss).setLink p .down).trainTest p).settle
  | .training => (s.leaveBringUp p).trainTest p
  | .qualify => (s.leaveBringUp p).trainTest p
  | .parked => (s.updPort p fun ps => { ps.dropOutbound with consecBad := 0, link := .down }).trainTest p
  | .faulted => (s.setLink p .down).trainTest p
  | .down => s.trainTest p
  | .disabled => s

/-- PORT_RESET (R164, R173). -/
def execPortReset (p : Port) (s : State) : Host.Outcome State Fault Refusal := .next (s.managed fun s => s.resetPort p)

/-- A clear-fault (R160). -/
def State.clearFault (s : State) (p : Port) : State :=
  if (s.port p).link = .faulted then (s.setLink p .down).trainTest p else s

/-- CLEAR_FAULT (R160, R173). -/
def execClearFault (p : Port) (s : State) : Host.Outcome State Fault Refusal := .next (s.managed fun s => s.clearFault p)

end Sys2Proof.Machine
end

