-- ==== Sys2Proof/Machine/Registers.lean ====
section
/-! DEFINITION. The management registers: what each index reads (R166, R170, R171, R181, R182), and the reads, writes and
captures that have commands of their own (R143, R165, R167, R169, R172, R174). -/

namespace Sys2Proof.Machine

/-! ## Codes of Table 11-6 -/

/-- The code of a link state. -/
def LinkState.code : LinkState → Nat
  | .disabled => 0
  | .down => 1
  | .training => 2
  | .qualify => 3
  | .up => 4
  | .parked => 5
  | .faulted => 6

/-- The code of the sweep activity. -/
def SweepActivity.code : SweepActivity → Nat
  | .idle => 0
  | .draining => 1
  | .sweeping => 2
  | .closing => 3

/-- The code of the last result. -/
def SweepResult.code : SweepResult → Nat
  | .none => 0
  | .completed => 1
  | .cancelled => 2

/-- The codes of the sweep mode and its port; the port reads 0 while the mode is absent or ALL (R182). -/
def sweepModeCodes (m : Option SweepMode) : Nat × Nat :=
  match m with
  | none => (0, 0)
  | some .all => (1, 0)
  | some (.port p) => (2, p.number)

/-- The code of a captured class. -/
def WatchClass.code : WatchClass → Nat
  | .shared => 0
  | .own => 1
  | .release => 2

/-- The code of a captured outcome. -/
def WatchOutcome.code : WatchOutcome → Nat
  | .noted => 0
  | .refused => 1

/-- The code of INSP_STAT's last command. -/
def InspCode.code : InspCode → Nat
  | .none => 0
  | .dirRead => 1
  | .txnRead => 2
  | .smRead => 3
  | .smWrite => 4
  | .clearPoison => 5

/-- The code of INSP_STAT's status. -/
def InspStatus.code : InspStatus → Nat
  | .none => 0
  | .ok => 1
  | .noEntry => 2
  | .free => 3
  | .held => 4
  | .badAddress => 5
  | .busy => 6

/-! ## What the registers read -/

/-- The four port enables, as PEN_SET and PEN_CLR read (R171). -/
def State.enables (s : State) : BitVec 4 := PortSet.toBits (s.ports.map fun ps => ps.enable)

/-- SWEEP_STAT0 (R182). -/
def State.sweepStat0 (s : State) : Reg16 :=
  fieldAt 0 s.sweep.activity.code ||| fieldAt 2 (sweepModeCodes s.sweep.mode).1 |||
    fieldAt 4 (sweepModeCodes s.sweep.mode).2 ||| fieldAt 6 s.sweepsInFlight ||| bitAt 9 s.sweep.cancelled |||
    fieldAt 10 s.sweep.last.code ||| bitAt 12 s.sweep.refused

/-- SWEEP_STAT1 (R182); past the end its set and way fields are free values (log 12). -/
def State.sweepStat1 (s : State) : Reg16 :=
  if s.sweep.cursor < Config.wayCount then fieldAt 0 (s.sweep.cursor / 4) ||| fieldAt 8 (s.sweep.cursor % 4)
  else bitAt 10 true ||| (Config.cursorFieldsPastEnd s.draws).zeroExtend 16

/-- WCAP1. -/
def WatchCapture.fields (c : WatchCapture) : Reg16 :=
  fieldAt 0 c.port.number ||| fieldAt 2 c.cls.code ||| fieldAt 4 c.outcome.code

/-- INSP_STAT. -/
def Insp.stat (i : Insp) : Reg16 := fieldAt 0 i.code.code ||| fieldAt 4 i.status.code

/-- INSP_D0 to INSP_D3: sixteen bits of the half of the result that the half field selects. -/
def Insp.data (i : Insp) (k : Nat) : Reg16 := i.result.extractLsb' ((if i.high then 64 else 0) + 16 * k) 16

/-- PINFOn (R171). -/
def State.portInfo (s : State) (p : Port) : Reg16 :=
  bitAt 0 (s.port p).enable ||| fieldAt 1 (s.port p).link.code ||| bitAt 4 (s.port p).permit |||
    fieldAt 5 (s.lockCount p)

/-- What a port register reads, by its offset (Table 11-5); an offset that names no register reads 0000H. -/
def State.readPortReg (s : State) (p : Port) (offset : Nat) : Reg16 :=
  match offset with
  | 0 => (s.port p).latches
  | 1 => (s.port p).latches
  | 3 => s.portInfo p
  | 4 => fieldAt 0 (s.holdingCount p)
  | 5 => (s.port p).label
  | 6 => (s.port p).badFrames.zeroExtend 16
  | 7 => (s.port p).overruns.zeroExtend 16
  | 8 => (s.port p).staleAcks.zeroExtend 16
  | _ => 0

/-- What a global register reads (Table 11-4); an index that names no register reads 0000H. -/
def State.readGlobalReg (s : State) (index : Nat) : Reg16 :=
  match index with
  | 0x00 => Config.identity
  | 0x01 => s.nstat
  | 0x02 => s.nstat
  | 0x03 => s.nmask
  | 0x04 => bitAt 0 s.excl
  | 0x05 => s.rto.zeroExtend 16
  | 0x06 => s.lkt.zeroExtend 16
  | 0x07 => s.tpat.zeroExtend 16
  | 0x08 => s.enables.zeroExtend 16
  | 0x09 => s.enables.zeroExtend 16
  | 0x0A => s.sma.cecnt
  | 0x0C => s.sweepStat0
  | 0x0D => s.sweepStat1
  | 0x0E => s.prot0
  | 0x0F => s.prot1
  | 0x10 => s.watch.e0.base.zeroExtend 16
  | 0x11 => s.watch.e1.base.zeroExtend 16
  | 0x12 => s.watch.e2.base.zeroExtend 16
  | 0x13 => s.watch.e3.base.zeroExtend 16
  | 0x14 => s.watch.e0.ctl.zeroExtend 16
  | 0x15 => s.watch.e1.ctl.zeroExtend 16
  | 0x16 => s.watch.e2.ctl.zeroExtend 16
  | 0x17 => s.watch.e3.ctl.zeroExtend 16
  | 0x18 => s.watch.hits.zeroExtend 16
  | 0x19 => s.watch.capture.line.zeroExtend 16
  | 0x1A => s.watch.capture.fields
  | 0x20 => s.insp.addr
  | 0x21 => bitAt 4 s.insp.high
  | 0x22 => s.insp.stat
  | 0x23 => s.insp.data 0
  | 0x24 => s.insp.data 1
  | 0x25 => s.insp.data 2
  | 0x26 => s.insp.data 3
  | 0x27 => s.insp.w0
  | 0x28 => s.insp.w1
  | _ => 0

/-- What a register reads (R166, R181). -/
def State.readReg (s : State) (index : BitVec 7) : Reg16 :=
  if index.toNat < 0x40 then s.readGlobalReg index.toNat
  else s.readPortReg (Port.ofNumber ((index.toNat - 0x40) / 16)) (index.toNat % 16)

/-! ## Capture and read-clear (R165, R167) -/

/-- The indexed register is captured (R165). -/
def State.captureReg (s : State) (index : BitVec 7) : State :=
  { s with capture := some ⟨index, s.readReg index, 0⟩, draws := s.draws + 1 }

/-- CAPTURE (R165). -/
def execCapture (index : BitVec 7) (s : State) : Host.Outcome State Fault Refusal :=
  .next (s.managed fun s => s.captureReg index)

/-- The latches that the completion of a read of the register clears (R167): those that were 1 in the captured value and
have not been latched again. Without a capture of this register there are none (log 24). -/
def State.toClear (s : State) (index : BitVec 7) : Reg16 :=
  match s.capture with
  | some c => if c.index = index then c.value &&& ~~~c.relatched else 0
  | none => 0

/-- The transfer has completed, and its captured value is done with. -/
def State.endCapture (s : State) (index : BitVec 7) : State :=
  match s.capture with
  | some c => if c.index = index then { s with capture := none } else s
  | none => s

/-- A read of NSTAT completes (R167). -/
def State.clearNotices (s : State) : State :=
  { s with nstat := s.nstat &&& ~~~s.toClear nstatIndex }.endCapture nstatIndex

/-- NSTAT_READ (R167). -/
def execNstatRead (s : State) : Host.Outcome State Fault Refusal := .next (s.managed State.clearNotices)

/-- A read of PSTATn completes (R167). -/
def State.clearLatches (s : State) (p : Port) : State :=
  (s.updPort p fun ps => { ps with latches := ps.latches &&& ~~~s.toClear (pstatIndex p) }).endCapture (pstatIndex p)

/-- PSTAT_READ (R167). -/
def execPstatRead (p : Port) (s : State) : Host.Outcome State Fault Refusal :=
  .next (s.managed fun s => s.clearLatches p)

/-! ## Writes -/

/-- NMASK has one enable for each of the eleven notice flags (R169). -/
def nmaskFields : Reg16 := 0x07FF#16

/-- NMASK_WRITE (R169). -/
def execNmaskWrite (value : Reg16) (s : State) : Host.Outcome State Fault Refusal :=
  .next (s.managed fun s => { s with nmask := value &&& nmaskFields })

/-- A counter is set to 0 (R172). -/
def State.clearCounter (s : State) (c : Counter) : State :=
  match c with
  | .badFrames p => s.updPort p fun ps => { ps with badFrames := 0 }
  | .overruns p => s.updPort p fun ps => { ps with overruns := 0 }
  | .staleAcks p => s.updPort p fun ps => { ps with staleAcks := 0 }
  | .corrected => { s with sma := { s.sma with cecnt := 0 } }

/-- COUNTER_CLEAR (R172). -/
def execCounterClear (c : Counter) (s : State) : Host.Outcome State Fault Refusal :=
  .next (s.managed fun s => s.clearCounter c)

/-- HIT_FLAG_CLEAR (R143). -/
def execHitFlagClear (flags : BitVec 4) (s : State) : Host.Outcome State Fault Refusal :=
  .next (s.managed fun s => { s with watch := { s.watch with hits := s.watch.hits &&& ~~~flags } })

/-- A write to a read/write register (R174, R130, R136, R176). -/
def State.writeSetting (s : State) (r : SettingReg) (value : Reg16) : State :=
  match r with
  | .gctl => { s with excl := value.getLsbD 0 }
  | .rto => { s with rto := value.truncate 8 }
  | .lkt => { s with lkt := value.truncate 8 }
  | .tpat => { s with tpat := value.truncate 8 }
  | .prot0 => { s with prot0 := value }
  | .prot1 => { s with prot1 := value }
  | .wbase k => { s with watch := s.watch.updEntry k fun e => { e with base := value.truncate 12 } }
  | .wctl k => { s with watch := s.watch.updEntry k fun e => { e with ctl := value.truncate 13 } }
  | .inspAddr => { s with insp := { s.insp with addr := value } }
  | .inspW0 => { s with insp := { s.insp with w0 := value } }
  | .inspW1 => { s with insp := { s.insp with w1 := value } }

/-- REGISTER_WRITE (R174). -/
def execRegisterWrite (r : SettingReg) (value : Reg16) (s : State) : Host.Outcome State Fault Refusal :=
  .next (s.managed fun s => s.writeSetting r value)

end Sys2Proof.Machine
end

