-- ==== Sys2Proof/Machine/Releases.lean ====
section
/-! DEFINITION. The four release-class messages of one port (R85, R88, R92, R93, R113, Table 9-3). -/

namespace Sys2Proof.Machine

/-- WRITEBACK (R88 to R91). -/
def execWriteback (p : Port) (line : LineField) (keep : Bool) (data : LineData) (s : State) :
    Host.Outcome State Fault Refusal :=
  .next (s.messageFrame p fun s => s.acceptRelease p (.writeback line keep data))

/-- EVICT (R92). -/
def execEvict (p : Port) (line : LineField) (s : State) : Host.Outcome State Fault Refusal :=
  .next (s.messageFrame p fun s => s.acceptRelease p (.evict line))

/-- UNLOCK (R113). -/
def execUnlock (p : Port) (line : LineField) (s : State) : Host.Outcome State Fault Refusal :=
  .next (s.messageFrame p fun s => s.acceptRelease p (.unlock line))

/-- RECALL_ACK (R93 to R99). -/
def execRecallAck (p : Port) (line : LineField) (tag : Tag) (answer : Answer) (s : State) :
    Host.Outcome State Fault Refusal :=
  .next (s.messageFrame p fun s => s.acceptRelease p (.recallAck line tag answer))

end Sys2Proof.Machine
end

