-- ==== Sys2Proof/Machine/Requests.lean ====
section
/-! DEFINITION. The five requests of one port (R64, R69, R74, R77, R84, R104, R155, Table 9-3). -/

namespace Sys2Proof.Machine

/-- RD_SHARED (R69 to R72). -/
def execRdShared (p : Port) (line : LineField) (word : WordNo) (s : State) : Host.Outcome State Fault Refusal :=
  .next (s.messageFrame p fun s => s.acceptRequest p (.acquire ⟨.rdShared, line, some word⟩))

/-- RD_OWN (R74 to R76). -/
def execRdOwn (p : Port) (line : LineField) (word : WordNo) (s : State) : Host.Outcome State Fault Refusal :=
  .next (s.messageFrame p fun s => s.acceptRequest p (.acquire ⟨.rdOwn, line, some word⟩))

/-- UPGRADE (R77, R78). -/
def execUpgrade (p : Port) (line : LineField) (s : State) : Host.Outcome State Fault Refusal :=
  .next (s.messageFrame p fun s => s.acceptRequest p (.acquire ⟨.upgrade, line, none⟩))

/-- LOCK (R104, R107, R108). -/
def execLock (p : Port) (line : LineField) (word : WordNo) (s : State) : Host.Outcome State Fault Refusal :=
  .next (s.messageFrame p fun s => s.acceptRequest p (.acquire ⟨.lock, line, some word⟩))

/-- PERMIT (R45, R84). -/
def execPermit (p : Port) (s : State) : Host.Outcome State Fault Refusal :=
  .next (s.messageFrame p fun s => s.acceptRequest p .permit)

end Sys2Proof.Machine
end

