-- ==== Sys2Proof/Machine/SweepCommands.lean ====
section
/-! DEFINITION. The sweep commands (R119, R126, R182). -/

namespace Sys2Proof.Machine

/-- A start command that is accepted (R119): the draining test is made in the same event (R121). -/
def State.acceptSweep (s : State) (m : SweepMode) : State :=
  { s with
    sweep := ⟨.draining, some m, 0, false, .none, false⟩
    work := { s.work with cursorDue := true } }.settle

/-- A start command that is refused (R119). -/
def State.refuseSweep (s : State) : State := { s with sweep := { s.sweep with refused := true } }

/-- A start command (R119). -/
def State.startCommand (s : State) (m : SweepMode) : State :=
  if s.sweep.activity = .idle then s.acceptSweep m else s.refuseSweep

/-- SWEEP_ALL (R119). -/
def execSweepAll (s : State) : Host.Outcome State Fault Refusal := .next (s.managed fun s => s.startCommand .all)

/-- SWEEP_PORT (R119). -/
def execSweepPort (p : Port) (s : State) : Host.Outcome State Fault Refusal :=
  .next (s.managed fun s => s.startCommand (.port p))

/-- A cancel (R126). -/
def State.cancelSweep (s : State) : State :=
  if s.sweep.activity = .idle ∨ s.sweep.cancelled = true then s
  else { s with sweep := { s.sweep with activity := .closing, cancelled := true } }.endTest.settle

/-- CANCEL (R126). -/
def execCancel (s : State) : Host.Outcome State Fault Refusal := .next (s.managed State.cancelSweep)

end Sys2Proof.Machine
end

