-- ==== Sys2Proof/Machine/Dispatch.lean ====
section
/-! DEFINITION. Every command with its meaning. -/

namespace Sys2Proof.Machine

/-- The effect of one command on everything but the queue of commands. -/
def exec (i : Instr) (s : State) : Host.Outcome State Fault Refusal :=
  match i with
  | .resetN => Sys2Proof.Machine.execResetN s
  | .initialisationStart => Sys2Proof.Machine.execInitialisationStart s
  | .initDone => Sys2Proof.Machine.execInitDone s
  | .signalPresent p => Sys2Proof.Machine.execSignalPresent p s
  | .signalLost p => Sys2Proof.Machine.execSignalLost p s
  | .badFrame p => Sys2Proof.Machine.execBadFrame p s
  | .malformedFrame p => Sys2Proof.Machine.execMalformedFrame p s
  | .echo p pattern => Sys2Proof.Machine.execEcho p pattern s
  | .hello p label => Sys2Proof.Machine.execHello p label s
  | .park p => Sys2Proof.Machine.execPark p s
  | .wake p => Sys2Proof.Machine.execWake p s
  | .rdShared p line word => Sys2Proof.Machine.execRdShared p line word s
  | .rdOwn p line word => Sys2Proof.Machine.execRdOwn p line word s
  | .upgrade p line => Sys2Proof.Machine.execUpgrade p line s
  | .lock p line word => Sys2Proof.Machine.execLock p line word s
  | .permit p => Sys2Proof.Machine.execPermit p s
  | .writeback p line keep data => Sys2Proof.Machine.execWriteback p line keep data s
  | .evict p line => Sys2Proof.Machine.execEvict p line s
  | .unlock p line => Sys2Proof.Machine.execUnlock p line s
  | .recallAck p line tag answer => Sys2Proof.Machine.execRecallAck p line tag answer s
  | .messageSent p => Sys2Proof.Machine.execMessageSent p s
  | .recallTimeout slot p => Sys2Proof.Machine.execRecallTimeout slot p s
  | .lockExpiry line => Sys2Proof.Machine.execLockExpiry line s
  | .qualificationTime p => Sys2Proof.Machine.execQualificationTime p s
  | .helloLimit p => Sys2Proof.Machine.execHelloLimit p s
  | .softReset excl => Sys2Proof.Machine.execSoftReset excl s
  | .portEnableSet ports => Sys2Proof.Machine.execPortEnableSet ports s
  | .portEnableClear ports => Sys2Proof.Machine.execPortEnableClear ports s
  | .portReset p => Sys2Proof.Machine.execPortReset p s
  | .clearFault p => Sys2Proof.Machine.execClearFault p s
  | .sweepAll => Sys2Proof.Machine.execSweepAll s
  | .sweepPort p => Sys2Proof.Machine.execSweepPort p s
  | .cancel => Sys2Proof.Machine.execCancel s
  | .view high => Sys2Proof.Machine.execView high s
  | .dirRead high => Sys2Proof.Machine.execDirRead high s
  | .txnRead high => Sys2Proof.Machine.execTxnRead high s
  | .smRead high => Sys2Proof.Machine.execSmRead high s
  | .smWrite high => Sys2Proof.Machine.execSmWrite high s
  | .clearPoison high => Sys2Proof.Machine.execClearPoison high s
  | .nstatRead => Sys2Proof.Machine.execNstatRead s
  | .pstatRead p => Sys2Proof.Machine.execPstatRead p s
  | .nmaskWrite value => Sys2Proof.Machine.execNmaskWrite value s
  | .counterClear c => Sys2Proof.Machine.execCounterClear c s
  | .hitFlagClear flags => Sys2Proof.Machine.execHitFlagClear flags s
  | .registerWrite r value => Sys2Proof.Machine.execRegisterWrite r value s
  | .capture index => Sys2Proof.Machine.execCapture index s

end Sys2Proof.Machine
end

