-- ==== Sys2Proof/Machine/Step.lean ====
section
/-! DEFINITION. One step of the hub. -/

namespace Sys2Proof.Machine

/-- One step: the command at the front of the queue is taken out and has its effect. With no command waiting, the first
timer that has reached its latest moment runs out, or, where none has, one microsecond passes (log 2, log 3). -/
def step (s : State) : Host.Outcome State Fault Refusal :=
  match s.pending with
  | c :: rest => exec c { s with pending := rest }
  | [] =>
    match s.due with
    | some c => exec c s
    | none => .next s.tick

/-- `s` with the command that a table word spells at the front of its queue; no word spells one. -/
def State.withFetchWord (s : State) (nbits w : Nat) : State :=
  match Sys2Proof.decodeTableWord nbits w with
  | some c => { s with pending := c :: s.pending }
  | none => s

end Sys2Proof.Machine
end

