-- ==== Sys2Proof/Machine/Frames.lean ====
section
/-! DEFINITION. Link frames: the check, the bytes of every hub message, the bytes of every agent message, and how a received
frame is read into a command (R178, R179, R180). -/

namespace Sys2Proof.Machine

/-! ## The frame check (R180) -/

/-- One bit of the CRC register's shift. -/
def crcBit (r : Reg16) : Reg16 := if r.getLsbD 15 then (r <<< 1) ^^^ 0x1021#16 else r <<< 1

/-- One byte enters the CRC register, most significant bit first. -/
def crcByte (r : Reg16) (b : Byte) : Reg16 :=
  crcBit (crcBit (crcBit (crcBit (crcBit (crcBit (crcBit (crcBit (r ^^^ (b.zeroExtend 16 <<< 8)))))))))

/-- The CRC of the bytes before the CRC field. -/
def crc (bytes : List Byte) : Reg16 := bytes.foldl crcByte 0xFFFF#16

/-- The high byte of a 16-bit field. -/
def highByte (v : BitVec 16) : Byte := v.extractLsb' 8 8

/-- The low byte of a 16-bit field. -/
def lowByte (v : BitVec 16) : Byte := v.extractLsb' 0 8

/-- A frame: the bytes followed by their CRC, high byte first. -/
def framed (bytes : List Byte) : List Byte := bytes ++ [highByte (crc bytes), lowByte (crc bytes)]

/-! ## Fields -/

/-- A word's four bytes, the lowest-addressed first (R178). -/
def wordBytes (w : Word) : List Byte :=
  [w.extractLsb' 0 8, w.extractLsb' 8 8, w.extractLsb' 16 8, w.extractLsb' 24 8]

/-- The 32 bytes of a payload. -/
def payload (ws : List Word) : List Byte := ws.flatMap wordBytes

/-- A header whose bytes 1 and 2 are a 16-bit field, high byte first. -/
def header (kind : Byte) (field : BitVec 16) (b3 b4 b5 : Byte) : List Byte :=
  [kind, highByte field, lowByte field, b3, b4, b5]

/-- The kind code of the message a DONE or REFUSE answers (Table 11-1). -/
def AnsweredKind.byte : AnsweredKind → Byte
  | .rdShared => 0x01
  | .rdOwn => 0x02
  | .upgrade => 0x03
  | .lock => 0x04
  | .permit => 0x05
  | .writeback => 0x10
  | .evict => 0x11
  | .unlock => 0x12

/-- The grant code (Table 11-3). -/
def Grant.byte : Grant → Byte
  | .shared => 0
  | .owned => 1
  | .ownedLocked => 2

/-- The condition code (Table 11-3). -/
def Condition.byte : Condition → Byte
  | .good => 0
  | .poisoned => 1

/-- The mode code (Table 11-3). -/
def RecallMode.byte : RecallMode → Byte
  | .invalidate => 0
  | .downgrade => 1

/-- The refusal reason code (Table 11-3). -/
def RefuseReason.byte : RefuseReason → Byte
  | .outOfRange => 1
  | .alreadyOwner => 2
  | .alreadyLocked => 3
  | .readOnly => 4
  | .noPermit => 5
  | .watch => 6
  | .lockLimit => 7
  | .overrun => 8
  | .notOwner => 9
  | .notLocked => 10

/-- The PARK_REFUSED reason code (Table 11-3). -/
def ParkReason.byte : ParkReason → Byte
  | .holdings => 1
  | .active => 2

/-! ## Hub messages (Tables 11-1 and 11-2) -/

/-- A hub message's bytes before the CRC. -/
def Msg.body : Msg → List Byte
  | .fill line word g c data => header 0x40 (line.zeroExtend 16) (word.zeroExtend 8) g.byte c.byte ++ payload data
  | .grant line g => header 0x41 (line.zeroExtend 16) 0 g.byte 0
  | .done line k => header 0x42 line k.byte 0 0
  | .refuse line k r => header 0x43 line k.byte r.byte 0
  | .recall line tag m => header 0x44 (line.zeroExtend 16) tag m.byte 0
  | .lockBroken line => header 0x45 (line.zeroExtend 16) 1 0 0
  | .swept => header 0x45 0 2 0 0
  | .train pattern => [0x60, pattern, 0, 0, 0, 0]
  | .hello p => [0x61, BitVec.ofNat 8 p.number, 0x08, 0x08, 0x02, 0x10]
  | .parked => header 0x62 0 0 0 0
  | .parkRefused r => header 0x63 0 r.byte 0 0
  | .awake => header 0x64 0 0 0 0

/-- The frame in which a hub message is sent. -/
def Msg.frame (m : Msg) : List Byte := framed m.body

/-! ## Agent messages -/

/-- The length of a frame of an agent kind with the given answer byte; none where no agent message has it (R179). -/
def agentLength (kind answer : Byte) : Option Nat :=
  if kind ∈ [0x01#8, 0x02#8, 0x03#8, 0x04#8, 0x05#8, 0x11#8, 0x12#8, 0x20#8, 0x21#8, 0x22#8, 0x23#8] then some 8
  else if kind = 0x10 then some 40
  else if kind = 0x13 then
    if answer = 1 then some 40
    else if answer = 2 ∨ answer = 3 then some 8
    else none
  else none

/-- The word at the start of the bytes. -/
def wordOf (bs : List Byte) : Word := bs.getD 3 0 ++ bs.getD 2 0 ++ bs.getD 1 0 ++ bs.getD 0 0

/-- The eight words of a payload, W0 to W7. -/
def lineDataOf (bs : List Byte) : LineData :=
  ⟨wordOf bs, wordOf (bs.drop 4), wordOf (bs.drop 8), wordOf (bs.drop 12), wordOf (bs.drop 16), wordOf (bs.drop 20),
    wordOf (bs.drop 24), wordOf (bs.drop 28)⟩

/-- The answer of a RECALL_ACK, from its answer byte and its payload. -/
def answerOf (code : Byte) (data : List Byte) : Answer :=
  if code = 1 then .data (lineDataOf data) else if code = 2 then .clean else .none

/-- The message of a good frame that is not malformed, from its kind code, its field, its bytes 3 and 5 and its payload. -/
def agentMessage (p : Port) (kind : Byte) (field : BitVec 16) (b3 b5 : Byte) (data : List Byte) : Instr :=
  if kind = 0x01 then .rdShared p field (b3.truncate 3)
  else if kind = 0x02 then .rdOwn p field (b3.truncate 3)
  else if kind = 0x03 then .upgrade p field
  else if kind = 0x04 then .lock p field (b3.truncate 3)
  else if kind = 0x05 then .permit p
  else if kind = 0x10 then .writeback p field (b3.getLsbD 0) (lineDataOf data)
  else if kind = 0x11 then .evict p field
  else if kind = 0x12 then .unlock p field
  else if kind = 0x13 then .recallAck p field b3 (answerOf b5 data)
  else if kind = 0x20 then .echo p (highByte field)
  else if kind = 0x21 then .hello p field
  else if kind = 0x22 then .park p
  else .wake p

/-- The command that a frame received on a port is (R149, R178 to R180): a length other than 8 or 40, or a CRC that
differs, is a bad frame; a wrong kind, length or answer is a malformed one. -/
def readFrame (p : Port) (bytes : List Byte) : Instr :=
  let body := bytes.take (bytes.length - 2)
  if (bytes.length = 8 ∨ bytes.length = 40) ∧ bytes = framed body then
    let kind := body.getD 0 0
    if agentLength kind (body.getD 5 0) = some bytes.length then
      agentMessage p kind (body.getD 1 0 ++ body.getD 2 0) (body.getD 3 0) (body.getD 5 0) (body.drop 6)
    else .malformedFrame p
  else .badFrame p

/-- An agent's answer byte and payload (Table 11-3). -/
def answerBytes : Answer → Byte × List Byte
  | .data d => (1, payload d.toList)
  | .clean => (2, [])
  | .none => (3, [])

/-- The port and the bytes, before the CRC, of the frame that is a command; none for a command that is no good frame. -/
def agentBody : Instr → Option (Port × List Byte)
  | .rdShared p line word => some (p, header 0x01 line (word.zeroExtend 8) 0 0)
  | .rdOwn p line word => some (p, header 0x02 line (word.zeroExtend 8) 0 0)
  | .upgrade p line => some (p, header 0x03 line 0 0 0)
  | .lock p line word => some (p, header 0x04 line (word.zeroExtend 8) 0 0)
  | .permit p => some (p, header 0x05 0 0 0 0)
  | .writeback p line keep d => some (p, header 0x10 line ((BitVec.ofBool keep).zeroExtend 8) 0 0 ++ payload d.toList)
  | .evict p line => some (p, header 0x11 line 0 0 0)
  | .unlock p line => some (p, header 0x12 line 0 0 0)
  | .recallAck p line tag a => some (p, header 0x13 line tag 0 (answerBytes a).1 ++ (answerBytes a).2)
  | .echo p pattern => some (p, [0x20, pattern, 0, 0, 0, 0])
  | .hello p label => some (p, header 0x21 label 0 0 0)
  | .park p => some (p, header 0x22 0 0 0 0)
  | .wake p => some (p, header 0x23 0 0 0 0)
  | _ => none

end Sys2Proof.Machine
end

