-- ==== Sys2Proof/Machine/Transfer.lean ====
section
/-! DEFINITION. Management transfers: the commands that a completed transfer takes, in their order, the bits a transfer
shifts out, and IRQ_N (R165, R166, R169, R173, R175, R181, R182). -/

namespace Sys2Proof.Machine

/-- The port of a port register's index (Table 11-5). -/
def indexPort (index : Nat) : Port := Port.ofNumber ((index - 0x40) / 16)

/-- The commands of a write to SWCTL, in the order CANCEL, START_ALL, START_PORT (R182). -/
def sweepCommands (value : Reg16) : List Instr :=
  (if value.getLsbD 4 then [.cancel] else []) ++ (if value.getLsbD 0 then [.sweepAll] else []) ++
    (if value.getLsbD 1 then [.sweepPort (Port.ofNumber (value.extractLsb' 2 2).toNat)] else [])

/-- The commands of a write to PCTLn: the port reset first, then the clear-fault (R173). -/
def portCommands (p : Port) (value : Reg16) : List Instr :=
  (if value.getLsbD 0 then [.portReset p] else []) ++ (if value.getLsbD 1 then [.clearFault p] else [])

/-- The command of a write to INSP_CMD (R176, Table 11-6). -/
def inspectCommand (value : Reg16) : Instr :=
  let high := value.getLsbD 4
  match (value.extractLsb' 0 3).toNat with
  | 1 => .dirRead high
  | 2 => .txnRead high
  | 3 => .smRead high
  | 4 => .smWrite high
  | 5 => .clearPoison high
  | _ => .view high

/-- The commands of a completed write to a global register (Table 11-4); a write to a register that is only read, or to an
index that names no register, is ignored. -/
def writeGlobal (index : Nat) (value : Reg16) : List Instr :=
  match index with
  | 0x03 => [.nmaskWrite value]
  | 0x04 => if value.getLsbD 15 then [.softReset (value.getLsbD 0)] else [.registerWrite .gctl value]
  | 0x05 => [.registerWrite .rto value]
  | 0x06 => [.registerWrite .lkt value]
  | 0x07 => [.registerWrite .tpat value]
  | 0x08 => [.portEnableSet (value.truncate 4)]
  | 0x09 => [.portEnableClear (value.truncate 4)]
  | 0x0A => [.counterClear .corrected]
  | 0x0B => sweepCommands value
  | 0x0E => [.registerWrite .prot0 value]
  | 0x0F => [.registerWrite .prot1 value]
  | 0x10 => [.registerWrite (.wbase 0) value]
  | 0x11 => [.registerWrite (.wbase 1) value]
  | 0x12 => [.registerWrite (.wbase 2) value]
  | 0x13 => [.registerWrite (.wbase 3) value]
  | 0x14 => [.registerWrite (.wctl 0) value]
  | 0x15 => [.registerWrite (.wctl 1) value]
  | 0x16 => [.registerWrite (.wctl 2) value]
  | 0x17 => [.registerWrite (.wctl 3) value]
  | 0x18 => [.hitFlagClear (value.truncate 4)]
  | 0x20 => [.registerWrite .inspAddr value]
  | 0x21 => [inspectCommand value]
  | 0x27 => [.registerWrite .inspW0 value]
  | 0x28 => [.registerWrite .inspW1 value]
  | _ => []

/-- The commands of a completed write to a port register, by its offset (Table 11-5). -/
def writePortReg (p : Port) (offset : Nat) (value : Reg16) : List Instr :=
  match offset with
  | 2 => portCommands p value
  | 6 => [.counterClear (.badFrames p)]
  | 7 => [.counterClear (.overruns p)]
  | 8 => [.counterClear (.staleAcks p)]
  | _ => []

/-- The commands of a completed write (R166). -/
def writeCommands (index : Nat) (value : Reg16) : List Instr :=
  if index < 0x40 then writeGlobal index value else writePortReg (indexPort index) (index % 16) value

/-- The commands of a completed read: only a read-clear register's read has an effect (R166, R167). -/
def readCommands (index : Nat) : List Instr :=
  if index = 0x01 then [.nstatRead]
  else if 0x40 ≤ index ∧ index % 16 = 0 then [.pstatRead (indexPort index)]
  else []

/-- The commands of a transfer that ends with MSEL_N rising after `count` bits, the first bit sampled being bit 23 of `w`:
after exactly 24 bits those of its write or read, after any other number none (R165). The capture is the command CAPTURE,
taken when the eighth bit is sampled. -/
def transferCommands (count : Nat) (w : BitVec 24) : List Instr :=
  if count = 24 then
    let index := (w.extractLsb' 16 7).toNat
    if w.getLsbD 23 then writeCommands index (w.extractLsb' 0 16) else readCommands index
  else []

/-- The captured value of the transfer in progress; nothing before its eighth bit. -/
def State.capturedValue (s : State) : Reg16 :=
  match s.capture with
  | some c => c.value
  | none => 0

/-- What MDOUT shows (R165, log 14): `none` is released. `bit` is the bit of the transfer in progress that it shows, the
first being 0, and `none` where no transfer is, MSEL_N being high. While a transfer is in progress MDOUT is low on its first
eight bits and then carries the captured value, most significant bit first; with MSEL_N high, and while RESET_N is low, it
is released. -/
def State.mdout (s : State) (bit : Option (Fin 24)) : Option Bool :=
  match s.init, bit with
  | .resetLow, _ => none
  | _, none => none
  | _, some k => some (decide (8 ≤ k.val) && s.capturedValue.getLsbD (23 - k.val))

end Sys2Proof.Machine
end

