-- ==== Sys2Proof/Safety.lean ====
section
/-! DEFINITION. What claims about the hub are stated in: the forms that every step keeps, and a hub at rest. -/

namespace Sys2Proof.Machine

/-! ## Forms that every step keeps -/

/-- The array is stored in canonical form: bytes, units and lines within their ranges, rising, and none listed that an
unlisted one reads as. -/
structure State.StorageForm (s : State) : Prop where
  bytes : Memory.wf s.sma.bytes
  errors : Store.Canonical UnitError.none (4 * Config.lineCount) s.sma.errors
  conds : Store.Canonical Condition.good Config.lineCount s.sma.conds

/-- A Port Controller's items keep to the values of Table 9-1: the queue depths, the match count, the consecutive count and
the latches' positions; DISABLED is the state of a port whose enable is clear (R147); the permit latch is clear outside UP
(R134); requests and releases are queued in UP only; a qualify start and a pending label stand in QUALIFY only. -/
structure PortState.Form (ps : PortState) : Prop where
  requests : ps.requests.length ≤ Config.requestDepth
  releases : ps.releases.length ≤ Config.releaseDepth
  outbound : ps.outbound.length ≤ Config.outboundDepth
  matches_le : ps.matchCount ≤ Config.matchLimit
  training : ps.link = .training → ps.matchCount < Config.matchLimit
  bad : ps.consecBad < Config.badFrameLimit
  latches : ps.latches &&& 0xFFE0#16 = 0
  disabled : ps.link = .disabled ↔ ps.enable = false
  permit : ps.permit = true → ps.link = .up
  queued : ps.link ≠ .up → ps.requests = [] ∧ ps.releases = []
  qualify : ps.qualifyStart.isSome = true → ps.link = .qualify
  label : ps.pendingLabel.isSome = true → ps.link = .qualify

/-- Every Port Controller has its form. -/
def State.PortForms (s : State) : Prop := ∀ p, (s.port p).Form

/-- NSTAT and NMASK have bits at the eleven positions of Table 11-6 only. -/
structure State.NoticeForm (s : State) : Prop where
  nstat : s.nstat &&& 0xF800#16 = 0
  nmask : s.nmask &&& 0xF800#16 = 0

/-- The Transaction Table: sixteen slots, each listed once; the sequence numbers 0 to 15; the tag of a transaction in flight
formed from its slot and its slot's sequence number (R36); at most four SWEEP transactions (R35). -/
structure State.TableForm (s : State) : Prop where
  rising : Store.Rising s.txns
  slots : ∀ e ∈ s.txns, e.1 < Config.slotCount
  seqs : ∀ n, s.seq n < 16
  tags : ∀ e ∈ s.txns, e.2.tag = tagFor e.1 (s.seq e.1)
  sweeps : s.sweepsInFlight ≤ Config.sweepLimit

/-- The directory's sets are listed once each, and an entry stands in the set of its line (R14). -/
structure State.SetForm (s : State) : Prop where
  rising : Store.Rising s.dir
  sets : ∀ x ∈ s.dir, ∀ e ∈ x.2, setOf e.line = x.1

/-- A port that sends nothing (DISABLED, DOWN, FAULTED) has nothing to send (R157). -/
def State.Silent (s : State) : Prop :=
  ∀ p, (s.port p).link.active = false → (s.port p).outbound = [] ∧ (s.port p).waiting = []

/-- The Coherence Directory and the Transaction Table agree.
- R14: a set lists a line once, and at most four entries, in distinct ways.
- R37: no two transactions in flight name one line.
- R17, R19: a transaction past WAIT_WAY has claimed its line's entry, one in WAIT_WAY has no entry yet, and every busy mark
  is that of the transaction on its line.
- R49, R50: a VICTIM awaits every holder of its line, and its partner waits for its way in the same set.
- R57, R60: only a transaction in RECALLING awaits an answer, and a grant that waits is the one grant of its port's own
  transaction.
- R105: a port's locks and its LOCK_FETCH transactions together are at most two; a LOCK_FETCH recalls any other owner. -/
structure State.DirectoryForm (s : State) : Prop where
  sets : s.SetForm
  table : Store.Rising s.txns ∧ ∀ x ∈ s.txns, x.1 < Config.slotCount
  fourWays : ∀ x ∈ s.dir, x.2.length ≤ 4 ∧ (x.2.map fun e => e.way).Nodup ∧ ∀ e ∈ x.2, e.way < 4
  lines : ∀ x ∈ s.dir, (x.2.map fun e => e.line).Nodup
  oneTxn : (s.txns.map fun x => x.2.line).Nodup
  claimed : ∀ x ∈ s.txns, x.2.phase ≠ .waitWay → ∃ e, s.lookup x.2.line = some e ∧ e.busy = some x.1
  unclaimed : ∀ x ∈ s.txns, x.2.phase = .waitWay → s.lookup x.2.line = none
  busy : ∀ e ∈ s.entries, ∀ n, e.busy = some n → ∃ t, s.txn n = some t ∧ t.line = e.line
  requesters : ∀ x ∈ s.txns, x.2.requester.isSome = x.2.kind.isAgent
  partners : ∀ x ∈ s.txns, x.2.kind = .victim → ∀ n, x.2.partner = some n →
    ∃ t, s.txn n = some t ∧ t.kind.isAgent = true ∧ t.phase = .waitWay ∧ t.partner = some x.1 ∧ setOf t.line = setOf x.2.line
  victims : ∀ x ∈ s.txns, x.2.kind = .victim → (∀ m ∈ x.2.awaited, m.mode = .invalidate) ∧
    ∀ e, s.lookup x.2.line = some e → ∀ p, e.holding.names p = true → x.2.awaits p = true
  answered : ∀ x ∈ s.txns, x.2.phase ≠ .recalling → x.2.allAnswered = true
  grants : ∀ p n, Offer.grant n ∈ (s.port p).waiting → (s.port p).waiting.count (Offer.grant n) = 1 ∧
    ∃ t, s.txn n = some t ∧ t.isLiveOf p = true ∧ t.phase = .granting
  locks : ∀ p, s.lockCount p + s.lockFetches p ≤ Config.lockLimit
  lockFetches : ∀ x ∈ s.txns, x.2.kind = .lockFetch → (∀ m ∈ x.2.awaited, m.mode = .invalidate) ∧
    (x.2.abandoned = false → ∀ e p, s.lookup x.2.line = some e → e.holding.owner = some p →
      x.2.requester = some p ∨ x.2.awaits p = true)

/-- No timer that runs has been passed: the time is not after the latest moment at which it runs out (R10, R56, R110,
R153). -/
def State.Timely (s : State) : Prop := ∀ x ∈ s.timers, s.now ≤ x.1

/-- No timer that runs has its latest moment before the time `t`. -/
def State.NoneBefore (s : State) (t : Nat) : Prop := ∀ x ∈ s.timers, t ≤ x.1

/-- Every port that the directory names as a holder, that requested a transaction which is not abandoned, or that a
transaction still awaits, has its link in UP (R163); a transaction awaits a port once (R39); and a port that sends nothing
has nothing to send (R157). -/
structure State.LinkForm (s : State) : Prop where
  table : Store.Rising s.txns ∧ ∀ e ∈ s.txns, e.1 < Config.slotCount
  sets : s.SetForm
  holders : ∀ e ∈ s.entries, ∀ p, e.holding.names p = true → s.isUp p = true
  requesters : ∀ x ∈ s.txns, ∀ p, x.2.isLiveOf p = true → s.isUp p = true
  members : ∀ x ∈ s.txns, ∀ m ∈ x.2.awaited, m.state.isOpen = true → s.isUp m.port = true
  once : ∀ x ∈ s.txns, (x.2.awaited.map fun m => m.port).Nodup
  silent : s.Silent

/-! ## A hub at rest -/

/-- No event is unfinished: so it is between two commands (log 15). -/
abbrev State.Settled (s : State) : Prop := s.work = ⟨false, false⟩

/-- No sweep runs and no request waits at a head, so an examination pass finds nothing to examine. -/
structure State.Calm (s : State) : Prop where
  idle : s.sweep.activity = .idle
  heads : ∀ p, (s.port p).requests = []
  settled : s.Settled

/-- Port `p` is in UP, and a message offered to it is placed at once (R53). -/
structure State.Open (s : State) (p : Port) : Prop where
  up : (s.port p).link = .up
  room : (s.port p).outbound.length < Config.outboundDepth
  waiting : (s.port p).waiting = []

/-- A request that arrives at port `p` is examined at once, and its answer is placed at once. -/
structure State.ReadyForRequest (s : State) (p : Port) : Prop where
  isOpen : s.Open p
  requests : (s.port p).requests = []
  answering : (s.port p).headAnswering = false
  settled : s.Settled

/-- A release that arrives at port `p` in UP is taken at once. -/
structure State.ReadyForRelease (s : State) (p : Port) : Prop where
  up : (s.port p).link = .up
  releases : (s.port p).releases = []
  applied : (s.port p).releaseApplied = false
  settled : s.Settled

/-- No watch entry that is enabled matches the access (R137). -/
def State.Unwatched (s : State) (p : Port) (line : LineNo) (c : WatchClass) : Prop :=
  ∀ e ∈ s.watch.entries, e.enabled = true → e.isMatch p line c = false

/-- No watch entry that is enabled with the action REFUSE matches the access (R138). -/
def State.Unrefused (s : State) (p : Port) (line : LineNo) (c : WatchClass) : Prop :=
  ∀ e ∈ s.watch.entries, e.enabled = true → e.refuses = true → e.isMatch p line c = false

/-- Nothing is wrong in any check unit of the line (R3). -/
def State.Clean (s : State) (line : LineNo) : Prop := ∀ u < 4, s.sma.unitError line u = UnitError.none

/-- At most two bits are wrong in each check unit of the line: the outcome of checking it is one that R3 gives. -/
def State.Checkable (s : State) (line : LineNo) : Prop := ∀ u < 4, (s.sma.unitError line u).weight ≤ 2

/-- A request for the line meets none of the hold conditions of Table 3-4 that other ports or the supervisor could bring
about: no transaction in flight names the line, and slot `slot` is the lowest that is free. -/
structure State.SlotFor (s : State) (line : LineNo) (slot : Nat) : Prop where
  unnamed : s.txnOn line = none
  free : s.freeSlots.head? = some slot

/-! ## The commands, in groups -/

/-- The port of a request- or release-class message (Table 9-3). -/
def messagePort : Instr → Option Port
  | .rdShared p _ _ => some p
  | .rdOwn p _ _ => some p
  | .upgrade p _ => some p
  | .lock p _ _ => some p
  | .permit p => some p
  | .writeback p _ _ _ => some p
  | .evict p _ => some p
  | .unlock p _ => some p
  | .recallAck p _ _ _ => some p
  | _ => none

/-- The port of a release-class message (Table 9-3). -/
def releasePort : Instr → Option Port
  | .writeback p _ _ _ => some p
  | .evict p _ => some p
  | .unlock p _ => some p
  | .recallAck p _ _ _ => some p
  | _ => none

/-- The port on whose receive pair a frame arrives (R149). -/
def framePort : Instr → Option Port
  | .badFrame p => some p
  | .malformedFrame p => some p
  | .echo p _ => some p
  | .hello p _ => some p
  | .park p => some p
  | .wake p => some p
  | c => messagePort c

/-- The command that an acquire request of a kind is. -/
def AcquireKind.command (k : AcquireKind) (p : Port) (f : LineField) (w : WordNo) : Instr :=
  match k with
  | .rdShared => .rdShared p f w
  | .rdOwn => .rdOwn p f w
  | .upgrade => .upgrade p f
  | .lock => .lock p f w

/-- The word that the FILL of a request of a kind starts with: W0 for an UPGRADE (R4). -/
def AcquireKind.firstWord (k : AcquireKind) (w : WordNo) : WordNo :=
  match k with
  | .rdShared => w
  | .rdOwn => w
  | .upgrade => 0
  | .lock => w

/-- The command that a start of a sweep is (R119). -/
def SweepMode.command (m : SweepMode) : Instr :=
  match m with
  | .all => .sweepAll
  | .port p => .sweepPort p

/-- The command that a write of an inspect code is; the code of no command is VIEW (R176). -/
def InspCode.command (c : InspCode) (high : Bool) : Instr :=
  match c with
  | .none => .view high
  | .dirRead => .dirRead high
  | .txnRead => .txnRead high
  | .smRead => .smRead high
  | .smWrite => .smWrite high
  | .clearPoison => .clearPoison high

/-- The command is a part of a management transfer (R165). -/
def isManagement : Instr → Bool
  | .softReset _ => true
  | .portEnableSet _ => true
  | .portEnableClear _ => true
  | .portReset _ => true
  | .clearFault _ => true
  | .sweepAll => true
  | .sweepPort _ => true
  | .cancel => true
  | .view _ => true
  | .dirRead _ => true
  | .txnRead _ => true
  | .smRead _ => true
  | .smWrite _ => true
  | .clearPoison _ => true
  | .nstatRead => true
  | .pstatRead _ => true
  | .nmaskWrite _ => true
  | .counterClear _ => true
  | .hitFlagClear _ => true
  | .registerWrite _ _ => true
  | .capture _ => true
  | _ => false

/-- The command by which a request joins its queue. -/
def Request.command (p : Port) : Request → Instr
  | .permit => .permit p
  | .acquire a => a.kind.command p a.line (a.word.getD 0)

/-- A request as its frame brings it: an UPGRADE carries no word, and the others do (Table 4-1). -/
def Request.isReceived : Request → Bool
  | .permit => true
  | .acquire a => a.word.isNone == (a.kind == .upgrade)

/-- The command by which a release joins its queue. -/
def Release.command (p : Port) : Release → Instr
  | .writeback f keep d => .writeback p f keep d
  | .evict f => .evict p f
  | .unlock f => .unlock p f
  | .recallAck f tag a => .recallAck p f tag a

/-- The one request of port `q`, in UP, waits at the head, and not for its answer to be placed. -/
structure State.Heads (s : State) (q : Port) (r : Request) : Prop where
  up : (s.port q).link = .up
  answering : (s.port q).headAnswering = false
  requests : (s.port q).requests = [r]
  received : r.isReceived = true

/-- In the state `s`, the command changes what a held head waits for, and so starts an examination pass (R40): it removes a
lock (R111, R113); its answer is the last that a transaction awaits, which then completes (R58, R59); it places the grant that
waits for the freed place (R57); or it cancels a sweep with no transaction in flight (R126). -/
def State.Clears (s : State) (c : Instr) : Prop :=
  s.sweep.activity = .idle ∧
      ((∃ p line, c = .unlock p (fieldOf line) ∧ s.ReadyForRelease p ∧ s.lockerOf line = some p) ∨
        (∃ line e p d, c = .lockExpiry line ∧ s.lookup line = some e ∧ e.holding = .owned p (some d) ∧ s.NoneBefore d) ∨
        (∃ p slot t answer, c = .recallAck p (fieldOf t.line) t.tag answer ∧ s.ReadyForRelease p ∧ s.txn slot = some t ∧
          t.tag.toNat / 16 = slot ∧ t.phase = .recalling ∧ t.awaits p = true ∧
          (∀ m ∈ t.awaited, m.port ≠ p → m.state = .answered) ∧
          (t.kind.isAgent = false ∨ t.abandoned = true ∨ ∃ q, t.requester = some q ∧ s.Open q)) ∨
        ∃ p m rest slot t w, c = .messageSent p ∧ (s.port p).link = .up ∧ (s.port p).outbound = m :: rest ∧
          (s.port p).waiting = .grant slot :: w ∧ s.txn slot = some t ∧ t.requester = some p ∧ t.abandoned = false) ∨
    c = .cancel ∧ s.init ≠ .resetLow ∧ s.sweep.activity ≠ .idle ∧ s.sweep.cancelled = false ∧ s.sweepsInFlight = 0

/-- The state after a command; a command that has no next state would leave the state as it was. -/
def State.after (s : State) (c : Instr) : State :=
  match exec c s with
  | .next t => t
  | .fault _ => s
  | .refused _ => s

/-! ## Registers -/

/-- The reset value of a register (Tables 11-4 and 11-5); 0000H where an index names none (R166). -/
def resetValue (index : BitVec 7) : Reg16 :=
  match index.toNat with
  | 0x00 => 0x7E42
  | 0x04 => 0x0001
  | 0x05 => 0x0010
  | 0x06 => 0x0014
  | 0x07 => 0x009A
  | _ => 0

/-- The index of a setting's register (Table 11-4). -/
def settingIndex : SettingReg → BitVec 7
  | .gctl => 0x04
  | .rto => 0x05
  | .lkt => 0x06
  | .tpat => 0x07
  | .prot0 => 0x0E
  | .prot1 => 0x0F
  | .wbase k => 0x10#7 + BitVec.ofNat 7 k.val
  | .wctl k => 0x14#7 + BitVec.ofNat 7 k.val
  | .inspAddr => 0x20
  | .inspW0 => 0x27
  | .inspW1 => 0x28

/-- The bit positions of a setting's register that name fields (Table 11-4). -/
def settingFields : SettingReg → Reg16
  | .gctl => 0x0001
  | .rto => 0x00FF
  | .lkt => 0x00FF
  | .tpat => 0x00FF
  | .prot0 => 0xFFFF
  | .prot1 => 0xFFFF
  | .wbase _ => 0x0FFF
  | .wctl _ => 0x1FFF
  | .inspAddr => 0xFFFF
  | .inspW0 => 0xFFFF
  | .inspW1 => 0xFFFF

/-! ## What an event leaves -/

/-- A Port Controller in TRAINING, as R151 enters it: the match count 0 and one TRAIN placed. -/
def PortState.inTraining (ps : PortState) (pattern : Byte) : PortState :=
  { ps with link := .training, matchCount := 0, outbound := [.train pattern] }

/-- The port's place in TRAINING or in DOWN, by the test of R148. -/
def PortState.fromDown (ps : PortState) (ready : Bool) (pattern : Byte) : PortState :=
  if ps.enable && ps.signal && ready then ps.inTraining pattern else ps

/-- The reading of one check unit (R3, R5, R6): one wrong bit is corrected and written back, CECNT rises to at most 65535 and
CORRECTED is latched; two wrong bits poison the line and latch POISON, and the unit is left. -/
def State.readUnit (s : State) (line : LineNo) (u : Nat) : State :=
  let wrong := s.sma.unitError line u
  if wrong.weight = 1 then
    { s with
      sma := { s.sma.writeUnit line u (s.sma.word line (2 * u) ^^^ wrong.lo) (s.sma.word line (2 * u + 1) ^^^ wrong.hi) with
        cecnt := if s.sma.cecnt = 0xFFFF then 0xFFFF else s.sma.cecnt + 1 } }.latch .corrected
  else if wrong.weight = 2 then { s with sma := s.sma.setCond line .poisoned }.latch .poison
  else s

/-- What the line read of a FILL leaves, its four check units read in their order (R2). -/
def State.readThrough (s : State) (line : LineNo) : State :=
  (((s.readUnit line 0).readUnit line 1).readUnit line 2).readUnit line 3

/-- What the test of a placed grant or of a line write leaves (R139 to R142): where an enabled entry matches the access, a
watch event with outcome NOTED. -/
def State.noted (s : State) (p : Port) (line : LineNo) (c : WatchClass) : State :=
  if s.watch.entries.any fun e => e.enabled && e.isMatch p line c then
    { s with watch := s.watch.hit p line c .noted }.latch .watch
  else s

/-- Initialisation has completed. -/
def State.isReady (s : State) : Bool := s.init == .ready

/-- A set's entries once the line's entry has the holding `h`, no busy mark, and the most recent place (R21, R57). -/
def State.granted (s : State) (line : LineNo) (h : Holding) : List Entry :=
  ((s.setEntries (setOf line)).filter fun e => e.line != line) ++
    ((s.setEntries (setOf line)).filter fun e => e.line == line).map fun e => { e with holding := h, busy := none }

/-- A set's entries once the line's entry has its holding changed by `f`, in its place of the recency order. -/
def State.rewritten (s : State) (line : LineNo) (f : Holding → Holding) : List Entry :=
  (s.setEntries (setOf line)).map fun e => if e.line = line then { e with holding := f e.holding } else e

/-- A set's entries without the line's. -/
def State.without (s : State) (line : LineNo) : List Entry :=
  (s.setEntries (setOf line)).filter fun e => e.line != line

/-- A message placed in the outbound queue of each of some ports. -/
def State.placedIn (s : State) (ports : List Port) (m : Msg) : State :=
  ports.foldl (fun s p => s.updPort p fun ps => { ps with outbound := ps.outbound ++ [m] }) s

/-- What a taken answer does to the array (R95, R98): DATA is written to the line, with the watch test of a line write; NONE
from a WAITING owner poisons the line. -/
def State.afterAnswer (s : State) (p : Port) (line : LineNo) (m : Member) (a : Answer) : State :=
  match a with
  | .data d => { s with sma := s.sma.writeLine line d }.noted p line .release
  | .clean => s
  | .none =>
    if m.state = .waiting ∧ s.ownerOf line = some p then { s with sma := s.sma.setCond line .poisoned }.latch .poison
    else s

/-- The holding that an open member's answer leaves (R96, R97): under INVALIDATE the port is removed; under DOWNGRADE a
WAITING owner is demoted by DATA or CLEAN and removed by NONE, and a RELEASED member's entry is left. -/
def Member.holdingAfter (m : Member) (p : Port) (a : Answer) (h : Holding) : Holding :=
  if m.mode = .invalidate then h.removePort p
  else if m.state = .released then h
  else if a = .none then h.removePort p
  else h.demote p

/-- What the grant of port `p`'s transaction is, over the holding that its entry has (Tables 4-3 and 6-2, R72): the class of
its access, whether it is a FILL, its grant code and the holding it leaves. -/
def State.GrantIs (s : State) (p : Port) (t : Txn) (held : Holding) (c : WatchClass) (fill : Bool) (grant : Grant)
    (h : Holding) : Prop :=
  let exclusive := t.awaited = [] ∧ s.excl = true ∧ s.blockMode t.line = .openMode
  t.kind = .fetchShared ∧ c = .shared ∧ fill = true ∧
      (held = .empty ∧ exclusive ∧ grant = .owned ∧ h = .owned p none ∨
        held = .empty ∧ ¬ exclusive ∧ grant = .shared ∧ h = .shared (PortSet.insert PortSet.empty p) ∨
        ∃ sharers, held = .shared sharers ∧ grant = .shared ∧ h = .shared (PortSet.insert sharers p)) ∨
    t.kind = .fetchOwn ∧ c = .own ∧ fill = true ∧ held.owner = none ∧ grant = .owned ∧ h = .owned p none ∨
    t.kind = .upgrade ∧ c = .own ∧ fill = !held.names p ∧ held.owner = none ∧ grant = .owned ∧ h = .owned p none ∨
    t.kind = .lockFetch ∧ c = .own ∧ grant = .ownedLocked ∧ h = .owned p (some (s.now + s.lockLifetime)) ∧
      (held.owner = none ∧ fill = true ∨ held = .owned p none ∧ fill = false)

/-- What the placing of the grant of port `p`'s transaction in the slot leaves (R57, R139): the line read of a FILL, whose
data and condition the FILL carries as the read leaves them; the FILL or GRANT in the port's outbound queue; the holding `h`
in the entry, at the most recent place and no longer busy; a watch event where an enabled entry matches; the slot free. -/
def State.afterGrant (s : State) (p : Port) (slot : Nat) (t : Txn) (c : WatchClass) (fill : Bool) (grant : Grant)
    (h : Holding) : State :=
  let read := if fill then s.readThrough t.line else s
  let word := t.word.getD 0
  let placed := if fill then
      Msg.fill t.line word grant (read.sma.cond t.line) (wrapOrder word (read.sma.lineWords t.line))
    else .grant t.line grant
  { (read.noted p t.line c).placedIn [p] placed with
    dir := Store.write [] s.dir (setOf t.line) (s.granted t.line h)
    txns := Store.erase s.txns slot }

/-- The mode of the line's block does not refuse port `p`'s request (R131): the request is an RD_SHARED, or the block is OPEN,
or the block is PERMIT and the port's permit latch is set. -/
def State.Allowed (s : State) (p : Port) (k : AcquireKind) (line : LineNo) : Prop :=
  k = .rdShared ∨ s.blockMode line = .openMode ∨ s.blockMode line = .permitMode ∧ (s.port p).permit = true

/-- The permit latch of port `p` after the taking of its request: an ownership request consumes it in a PERMIT block (R134). -/
def State.permitAfter (s : State) (p : Port) (k : AcquireKind) (line : LineNo) : Bool :=
  if k ≠ .rdShared ∧ s.blockMode line = .permitMode then false else (s.port p).permit

/-- `t` is a state in which port `p`, in UP in `s`, has left UP and is retired (R28, R29, R163): its link is not UP; its
request and release queues and its wait list are empty, and nothing but TRAIN stands in its outbound queue; its permit latch
is clear; no entry names it, no transaction that is not abandoned has it as requester, and no transaction awaits it; the
lines it owned are POISONED; the departure's notice and latch are set; its label, counts and the latches already set are
kept. -/
structure State.Retired (s t : State) (p : Port) (n : Notice) (l : PortLatch) : Prop where
  link : (t.port p).link ≠ .up
  queues : (t.port p).requests = [] ∧ (t.port p).releases = []
  outbound : (t.port p).waiting = [] ∧ ∀ m ∈ (t.port p).outbound, m.isTrain = true
  permit : (t.port p).permit = false
  consecBad : (t.port p).consecBad = 0
  matchCount : (t.port p).matchCount = 0
  holders : ∀ e ∈ t.entries, e.holding.names p = false
  requester : ∀ x ∈ t.txns, x.2.isLiveOf p = false
  member : ∀ x ∈ t.txns, ∀ m ∈ x.2.awaited, m.state.isOpen = true → m.port ≠ p
  poisoned : ∀ line, s.ownerOf line = some p → t.sma.cond line = .poisoned
  notice : t.nstat &&& n.bit = n.bit
  latch : (t.port p).latches = (s.port p).latches ||| l.bit
  label : (t.port p).label = (s.port p).label
  counts : (t.port p).badFrames = (s.port p).badFrames ∧ (t.port p).overruns = (s.port p).overruns ∧
    (t.port p).staleAcks = (s.port p).staleAcks

end Sys2Proof.Machine
end

