-- ==== Sys2Proof/Certificates/Slice0/Obligations.lean ====
section
/-! DEFINITION. The statements about the hub, for the provers. Next states are written as record updates of the state
before, so that whatever an update does not name is unchanged. -/

open Sys2Proof Sys2Proof.Machine

/-! ## The queue of commands -/

/-- A step takes the command at the front of the queue and runs it on the rest (the model's own queue: log 1). -/
def Obligations.StepRunsTheCommandAtTheFront : Prop :=
  ∀ (c : Instr) (rest : List Instr) (s : State),
    step { s with pending := c :: rest } = exec c { s with pending := rest }

/-- With no command waiting, one microsecond passes where no timer has reached its latest moment; where one has, the
earliest runs out, as its command does (the model's choice: log 2, log 3). -/
def Obligations.StepWithNoCommandLetsTimePass : Prop :=
  ∀ s : State, s.pending = [] →
    (s.NoneBefore (s.now + 1) → step s = .next { s with now := s.now + 1 }) ∧
    (¬ s.NoneBefore (s.now + 1) →
      ∃ x ∈ s.timers, x.1 ≤ s.now ∧ (∀ y ∈ s.timers, x.1 ≤ y.1) ∧ step s = exec x.2.command s)

/-- Every command answers a next state, in which the queue of commands is as it was. That queue is the model's own (log 1),
and a command that names an event which cannot occur answers a next state by the model's choice (log 4, log 5). -/
def Obligations.EveryCommandHasANextStateAndKeepsTheQueue : Prop :=
  ∀ (c : Instr) (s : State), ∃ t, exec c s = .next t ∧ t.pending = s.pending

/-! ## Resets and initialisation -/

/-- RESET_N leaves every register at its reset value (R181), the directory and the Transaction Table empty with every
sequence number 0 and P3 the last admitted (R33, R63), and every Port Controller at Table 9-1's values; the receivers'
reports of signal stay (the model's choice: log 9). State.reset's registers have their reset values too. -/
def Obligations.ResetNResetsEveryBlock : Prop :=
  (∀ index, State.reset.readReg index = resetValue index) ∧
    ∀ s : State, ∃ t, exec .resetN s = .next t ∧ (∀ index, t.readReg index = resetValue index) ∧ t.init = .resetLow ∧
      t.dir = [] ∧ t.txns = [] ∧ (∀ n, t.seq n = 0) ∧ t.lastAdmitted = .P3 ∧ t.sweep = Sweep.reset ∧
      (∀ p, t.port p = PortState.reset (s.port p).signal) ∧ t.pending = s.pending

/-- Initialisation starts with CECNT 0 when reset ends. When it completes, every byte is 00H with fresh check bits and every
line is GOOD (all of it seen at the completion: the model's choice, log 8), INIT_DONE is latched, CECNT is as it was, and
each port in DOWN that is enabled and has signal goes to TRAINING (R10, R11, R148). -/
def Obligations.InitialisationClearsTheArrayAndReleasesTheLinks : Prop :=
  (∀ s : State, s.init = .resetLow →
      exec .initialisationStart s = .next { s with init := .initialising s.now, sma := { s.sma with cecnt := 0 } }) ∧
    ∀ (s : State) (start : Nat), s.init = .initialising start → s.Silent →
      ∃ t, exec .initDone s = .next t ∧
        (∀ a, Memory.readByte t.sma.bytes a = 0) ∧ (∀ line u, t.sma.unitError line u = UnitError.none) ∧
        (∀ line, t.sma.cond line = .good) ∧ t.sma.cecnt = s.sma.cecnt ∧
        (∀ p, t.port p = if (s.port p).link = .down then (s.port p).fromDown true s.tpat else s.port p) ∧
        t = { s.latch .initDone with init := .ready, sma := t.sma, ports := t.ports }

/-- The soft reset (R12, R34, R63, R128, R145, R164, R175): the directory and the Transaction Table are cleared, the Sweep
Engine, the notices, NMASK, the latches, the counters and the Inspect Window return to their reset values; each port keeps
its enable and goes to DOWN, or on to TRAINING, unless it is DISABLED; the settings and the block modes are kept. Whatever is
in flight, the array's data and check bits are kept; a line that a port not DISABLED owns is POISONED, and every condition
else is kept, but that a retirement may end a recall (R61, R163): a line that nobody owned and that is then granted to a port
retired later is POISONED with it. The watch entries lose only the enables of the SESSION entries, and the hit flags and the
capture are kept. That such a grant makes no line read and no watch test is the model's reading (log 23). -/
def Obligations.SoftResetClearsWhatTheTablesSay : Prop :=
  ∀ (s : State) (excl : Bool), s.init ≠ .resetLow →
    ∃ t, exec (.softReset excl) s = .next t ∧ t.excl = excl ∧
      t.dir = [] ∧ t.txns = [] ∧ (∀ n, t.seq n = 0) ∧ t.lastAdmitted = .P3 ∧ t.sweep = Sweep.reset ∧
      t.nstat = 0 ∧ t.nmask = 0 ∧ t.insp = Insp.reset ∧ t.sma.cecnt = 0 ∧
      (∀ p, t.port p =
        if (s.port p).link = .disabled then { PortState.reset (s.port p).signal with enable := (s.port p).enable }
        else { PortState.reset (s.port p).signal with enable := (s.port p).enable, link := .down }.fromDown s.isReady s.tpat) ∧
      t.prot0 = s.prot0 ∧ t.prot1 = s.prot1 ∧ t.rto = s.rto ∧ t.lkt = s.lkt ∧ t.tpat = s.tpat ∧ t.init = s.init ∧
      t.now = s.now ∧
      (s.SetForm →
        t.sma.bytes = s.sma.bytes ∧ t.sma.errors = s.sma.errors ∧
        (∀ line, s.txnOn line = none → t.sma.cond line = match s.ownerOf line with
          | some p => if (s.port p).link = .disabled then s.sma.cond line else .poisoned
          | none => s.sma.cond line) ∧
        (∀ line, t.sma.cond line = s.sma.cond line ∨ t.sma.cond line = .poisoned) ∧
        t.watch = s.watch.mapEntries fun e => if e.isSession then e.disable else e) ∧
      (s.DirectoryForm → ∀ line p, s.ownerOf line = some p → (s.port p).link ≠ .disabled → t.sma.cond line = .poisoned) ∧
      (s.DirectoryForm → s.LinkForm → ∀ slot u q e sharers, s.txns = [(slot, u)] → u.kind = .fetchOwn →
        u.requester = some q → u.abandoned = false → u.phase = .recalling → u.allAnswered = false → s.Open q →
        s.lookup u.line = some e → e.holding = .shared sharers →
        (∀ m ∈ u.awaited, m.state ≠ .answered → m.port.number < q.number) → t.sma.cond u.line = .poisoned)

/-! ## Link events -/

/-- The receiver's report of signal (R148): its coming sends an enabled port in DOWN to TRAINING once initialisation has
completed, and is only recorded elsewhere; its loss sends a port in TRAINING or QUALIFY to DOWN, loses the link of a port in
PARKED, and is only recorded in DOWN, DISABLED and FAULTED. -/
def Obligations.SignalChangesMoveThePort : Prop :=
  ∀ (s : State) (p : Port),
    ((s.port p).link = .down → s.Silent →
      exec (.signalPresent p) s =
        .next (s.updPort p fun ps => { ps with signal := true }.fromDown s.isReady s.tpat)) ∧
    ((s.port p).link ≠ .down → exec (.signalPresent p) s = .next (s.updPort p fun ps => { ps with signal := true })) ∧
    ((s.port p).link = .training ∨ (s.port p).link = .qualify →
      exec (.signalLost p) s = .next (s.updPort p fun ps =>
        { ps with
          signal := false, link := .down, outbound := [], waiting := [], matchCount := 0, pendingLabel := none,
          qualifyStart := none })) ∧
    ((s.port p).link = .parked →
      exec (.signalLost p) s = .next ((s.updPort p fun ps =>
        { ps with signal := false, link := .down, outbound := [], waiting := [], matchCount := 0, consecBad := 0 }).latchBoth
          p .portLoss .loss)) ∧
    ((s.port p).link = .down ∨ (s.port p).link = .disabled ∨ (s.port p).link = .faulted →
      exec (.signalLost p) s = .next (s.updPort p fun ps => { ps with signal := false }))

/-- Each way out of UP retires the port (R28, R29, R55, R61, R86, R158, R159, R163, R164, R171): loss of signal and the fourth
bad frame in a row (PORT_LOSS, to DOWN or on to TRAINING); a port reset; a cleared enable (to DISABLED), each UP port that
the write names being retired; a release queue overrun and a recall deadline that runs out at attempt 2 (PORT_FAULT, to
FAULTED). An overrun's message is discarded: what the overrun leaves is the same for every release-class message, so the
line data that a WRITEBACK or a DATA answer carries is written nowhere. Where a command's time moves on to the deadline, no
other timer's latest moment comes first (log 4). -/
def Obligations.APortThatLeavesUpIsRetired : Prop :=
  ∀ (s : State) (p : Port), s.LinkForm → (s.port p).link = .up →
    (∃ t, exec (.signalLost p) s = .next t ∧ State.Retired s t p .portLoss .loss ∧ (t.port p).link = .down) ∧
    ((s.port p).consecBad = 3 →
      ∃ t, exec (.badFrame p) s = .next t ∧ State.Retired (s.countBad p) t p .portLoss .loss ∧
        ((t.port p).link = .down ∨ (t.port p).link = .training)) ∧
    (s.init ≠ .resetLow →
      ∃ t, exec (.portReset p) s = .next t ∧ State.Retired s t p .portLoss .loss ∧
        ((t.port p).link = .down ∨ (t.port p).link = .training)) ∧
    (s.init ≠ .resetLow → s.DirectoryForm → ∀ mask : BitVec 4,
      ∃ t, exec (.portEnableClear mask) s = .next t ∧
        ∀ q, mask.getLsbD q.number = true → (s.port q).link = .up →
          State.Retired s t q .portLoss .loss ∧ (t.port q).link = .disabled ∧ (t.port q).enable = false) ∧
    ((s.port p).releases.length = Config.releaseDepth →
      ∃ t, State.Retired s t p .portFault .fault ∧ (t.port p).link = .faulted ∧
        ∀ c, releasePort c = some p → exec c s = .next t) ∧
    ∀ slot u m d, s.runningMember slot.toNat p = some (u, m, d) → m.second = true → s.NoneBefore d →
      ∃ t, exec (.recallTimeout slot p) s = .next t ∧ State.Retired s t p .portFault .fault ∧
        (t.port p).link = .faulted

/-- Bad frames and malformed frames, by link state (R149, R150, R153, R158, Table 9-3). -/
def Obligations.BadAndMalformedFramesActByLinkState : Prop :=
  ∀ (s : State) (p : Port),
    ((s.port p).link = .training →
      exec (.badFrame p) s = .next (s.updPort p fun ps =>
        { ps with badFrames := saturatingInc ps.badFrames, matchCount := 0 }) ∧
      exec (.malformedFrame p) s = .next (s.updPort p fun ps => { ps with matchCount := 0 })) ∧
    ((s.port p).link = .qualify →
      exec (.badFrame p) s = .next (s.updPort p fun ps =>
        { ps with
          badFrames := saturatingInc ps.badFrames, pendingLabel := none, qualifyStart := none, waiting := [] }.inTraining
            s.tpat) ∧
      exec (.malformedFrame p) s = .next (s.latchBoth p .protocol .protocol)) ∧
    ((s.port p).link = .up ∨ (s.port p).link = .parked → (s.port p).consecBad < 3 →
      exec (.badFrame p) s = .next (s.updPort p fun ps =>
        { ps with badFrames := saturatingInc ps.badFrames, consecBad := ps.consecBad + 1 })) ∧
    ((s.port p).link = .parked → (s.port p).consecBad = 3 →
      exec (.badFrame p) s = .next ((s.updPort p fun ps =>
        { ps with
          badFrames := saturatingInc ps.badFrames, link := .down, outbound := [], waiting := [], matchCount := 0,
          consecBad := 0 }.fromDown s.isReady s.tpat).latchBoth p .portLoss .loss)) ∧
    ((s.port p).link = .up →
      exec (.malformedFrame p) s =
        .next ((s.updPort p fun ps => { ps with consecBad := 0 }).latchBoth p .protocol .protocol)) ∧
    ((s.port p).link = .parked →
      exec (.malformedFrame p) s = .next (s.updPort p fun ps => { ps with consecBad := 0 }))

/-- ECHOs in TRAINING (R151, R152): one with TPAT's pattern raises the match count, and any other sets it to 0; the sixteenth
in a row sends the port to QUALIFY, withdraws the unsent TRAIN and places HELLO. In QUALIFY an ECHO does nothing; in UP and
PARKED it is a good frame. That the match count stays 16 once QUALIFY is entered is the model's choice (log 21). -/
def Obligations.SixteenMatchingEchoesEndTraining : Prop :=
  ∀ (s : State) (p : Port) (pattern : Byte),
    ((s.port p).link = .training →
      (pattern ≠ s.tpat → exec (.echo p pattern) s = .next (s.updPort p fun ps => { ps with matchCount := 0 })) ∧
      (pattern = s.tpat → (s.port p).matchCount < 15 →
        exec (.echo p pattern) s = .next (s.updPort p fun ps => { ps with matchCount := ps.matchCount + 1 })) ∧
      (pattern = s.tpat → (s.port p).matchCount = 15 → (∀ m ∈ (s.port p).outbound, m.isTrain = true) →
        (s.port p).waiting = [] →
        exec (.echo p pattern) s = .next (s.updPort p fun ps =>
          { ps with
            link := .qualify, matchCount := 16, qualifyStart := some s.now, pendingLabel := none,
            outbound := [.hello p] }))) ∧
    ((s.port p).link = .qualify → exec (.echo p pattern) s = .next s) ∧
    ((s.port p).link = .up ∨ (s.port p).link = .parked →
      exec (.echo p pattern) s = .next (s.updPort p fun ps => { ps with consecBad := 0 }))

/-- An agent HELLO (R153, R154, Table 9-3): in QUALIFY its label becomes the pending label, or, once 500 µs have passed since
the qualify start, the port goes to UP with it and PORT_UP is latched; in UP it latches PROTOCOL; in PARKED it is a good
frame; in TRAINING it does nothing. -/
def Obligations.AgentHelloBringsTheLabel : Prop :=
  ∀ (s : State) (p : Port) (label : BitVec 16),
    (∀ start, (s.port p).link = .qualify → (s.port p).qualifyStart = some start →
      (s.now < start + 500 →
        exec (.hello p label) s = .next (s.updPort p fun ps => { ps with pendingLabel := some label })) ∧
      (start + 500 ≤ s.now →
        exec (.hello p label) s = .next ((s.updPort p fun ps =>
          { ps with link := .up, label := label, consecBad := 0, pendingLabel := none, qualifyStart := none }).latchBoth p
            .portUp .up))) ∧
    ((s.port p).link = .up →
      exec (.hello p label) s =
        .next ((s.updPort p fun ps => { ps with consecBad := 0 }).latchBoth p .protocol .protocol)) ∧
    ((s.port p).link = .parked → exec (.hello p label) s = .next (s.updPort p fun ps => { ps with consecBad := 0 })) ∧
    ((s.port p).link = .training → exec (.hello p label) s = .next s)

/-- The two times of QUALIFY (R153, R154): at 500 µs a port with a pending label goes to UP and one without stays; at 2000 µs
a port without one goes back to TRAINING. The command moves the time on to that moment where it is still earlier, no other
timer's latest moment coming first (the model's choice: log 4). -/
def Obligations.QualificationTimesMoveThePort : Prop :=
  ∀ (s : State) (p : Port) (start : Nat), (s.port p).link = .qualify → (s.port p).qualifyStart = some start →
    (∀ label, (s.port p).pendingLabel = some label → s.NoneBefore (start + 500) →
      exec (.qualificationTime p) s = .next (({ s with now := max s.now (start + 500) }.updPort p fun ps =>
        { ps with link := .up, label := label, consecBad := 0, pendingLabel := none, qualifyStart := none }).latchBoth p
          .portUp .up)) ∧
    ((s.port p).pendingLabel = none →
      (s.NoneBefore (start + 500) →
        exec (.qualificationTime p) s = .next { s with now := max s.now (start + 500) }) ∧
      (s.NoneBefore (start + 2000) →
        exec (.helloLimit p) s = .next ({ s with now := max s.now (start + 2000) }.updPort p fun ps =>
          { ps with pendingLabel := none, qualifyStart := none, waiting := [] }.inTraining s.tpat)))

/-- A PARK in UP (R161): accepted, it moves the port to PARKED, clears the permit latch and places PARKED; refused, it offers
PARK_REFUSED with HOLDINGS or ACTIVE, unless one already waits. Every PARK in UP is a good frame. -/
def Obligations.ParkIsAcceptedOnlyFromAnIdlePort : Prop :=
  ∀ (s : State) (p : Port), (s.port p).link = .up →
    (s.holdingCount p = 0 → s.lockCount p = 0 →
      (∀ x ∈ s.txns, x.2.isLiveOf p = false ∧ x.2.member p = none) →
      (s.port p).requests = [] → (s.port p).releases = [] → (s.port p).outbound = [] → (s.port p).waiting = [] →
      exec (.park p) s = .next (s.updPort p fun ps =>
        { ps with link := .parked, permit := false, consecBad := 0, outbound := [.parked] })) ∧
    (∀ reason,
      (reason = .holdings ∧ (s.holdingCount p ≠ 0 ∨ s.lockCount p ≠ 0)) ∨
        (reason = .active ∧ s.holdingCount p = 0 ∧ s.lockCount p = 0 ∧
          ((∃ x ∈ s.txns, x.2.isLiveOf p = true ∨ (x.2.member p).isSome = true) ∨ (s.port p).requests ≠ [] ∨
            (s.port p).releases ≠ [] ∨ (s.port p).outbound ≠ [] ∨ (s.port p).waiting ≠ [])) →
      (s.Open p → exec (.park p) s = .next (s.updPort p fun ps =>
        { ps with consecBad := 0, outbound := ps.outbound ++ [.parkRefused reason] })) ∧
      (¬ s.Open p → (∀ o ∈ (s.port p).waiting, o.isParkRefused = false) →
        exec (.park p) s = .next (s.updPort p fun ps =>
          { ps with consecBad := 0, waiting := ps.waiting ++ [.plain (.parkRefused reason)] })) ∧
      ((∃ o ∈ (s.port p).waiting, o.isParkRefused = true) →
        exec (.park p) s = .next (s.updPort p fun ps => { ps with consecBad := 0 })))

/-- A WAKE (R162): in PARKED it moves the port to UP and places AWAKE, latching nothing and changing neither the label nor
the permit latch; in UP it is discarded as a good frame. That it sets the consecutive-bad-frame count to 0 as every good
frame does is the model's reading of R149 beside R162 (log 20). -/
def Obligations.WakeReturnsAParkedPortToUp : Prop :=
  ∀ (s : State) (p : Port),
    ((s.port p).link = .parked → (s.port p).outbound.length < 16 → (s.port p).waiting = [] →
      exec (.wake p) s = .next (s.updPort p fun ps =>
        { ps with link := .up, consecBad := 0, outbound := ps.outbound ++ [.awake] })) ∧
    ((s.port p).link = .up → exec (.wake p) s = .next (s.updPort p fun ps => { ps with consecBad := 0 }))

/-- Frames outside UP (R147, R148, R160, Table 9-3): a port in DISABLED, DOWN or FAULTED takes no frame of any kind; request-
and release-class frames are discarded in TRAINING, discarded with PROTOCOL in QUALIFY, and discarded as good frames in
PARKED; PARK and WAKE are discarded in TRAINING and QUALIFY, and PARK is a good frame in PARKED. -/
def Obligations.FramesOutsideUpAreDiscarded : Prop :=
  ∀ (s : State) (p : Port),
    (∀ c, framePort c = some p → (s.port p).link = .disabled ∨ (s.port p).link = .down ∨ (s.port p).link = .faulted →
      exec c s = .next s) ∧
    (∀ c, messagePort c = some p →
      ((s.port p).link = .training → exec c s = .next s) ∧
      ((s.port p).link = .qualify → exec c s = .next (s.latchBoth p .protocol .protocol)) ∧
      ((s.port p).link = .parked → exec c s = .next (s.updPort p fun ps => { ps with consecBad := 0 }))) ∧
    ((s.port p).link = .training ∨ (s.port p).link = .qualify →
      exec (.park p) s = .next s ∧ exec (.wake p) s = .next s) ∧
    ((s.port p).link = .parked → exec (.park p) s = .next (s.updPort p fun ps => { ps with consecBad := 0 }))

/-- A waiting RECALL or grant takes the place that a sent message frees (R2, R4, R21, R52, R53, R57, R60, R68, R72, R108,
R109, R139, R157). A RECALL's member has its deadline RTO from this placing. A grant's form is decided at this placing, from
the entry as it then stands: FILL, whose line read is made now, with whatever its check finds, or GRANT; the port becomes
owner, with a LOCK's lock until LKT from now, or a sharer; the entry moves to the most recent place, its busy mark goes, the
watch entries are tested, and the slot is free. -/
def Obligations.AWaitingRecallOrGrantIsPlaced : Prop :=
  ∀ (s : State) (p : Port) (m : Msg) (rest : List Msg) (w : List Offer) (slot : Nat) (t : Txn),
    (s.port p).link = .up → (s.port p).outbound = m :: rest → s.Settled → s.txn slot = some t →
    (∀ line tag mode, (s.port p).waiting = .recall slot line tag mode :: w →
      exec (.messageSent p) s = .next
        { s.updPort p (fun ps => { ps with outbound := rest ++ [.recall line tag mode], waiting := w }) with
          txns := Store.put s.txns slot (t.updMember p fun m => { m with deadline := some (s.now + s.recallTimeout) }) }) ∧
    (∀ (e : Entry) (c : WatchClass) (fill : Bool) (grant : Grant) (h : Holding),
      (s.port p).waiting = .grant slot :: w → s.Calm → t.requester = some p → t.abandoned = false →
      s.lookup t.line = some e → e.busy = some slot → s.Checkable t.line → s.GrantIs p t e.holding c fill grant h →
      exec (.messageSent p) s = .next
        ((s.updPort p fun ps => { ps with outbound := rest, waiting := w }).afterGrant p slot t c fill grant h))

/-- The oldest message leaves (R53, R157): the rest move up; the freed place goes to the oldest message on the wait list, and
a REFUSE or DONE placed so takes its request or release from its queue (a RECALL and a grant placed so:
AWaitingRecallOrGrantIsPlaced), and the next in that queue is examined or taken in the same event, as if it had just arrived
(R44, R85), and each that reaches the head after it, the requests where no sweep runs and no other port's request waits; in
TRAINING an empty queue is given the next TRAIN (R151). That a taken request's grant is offered before the next head is
examined, and that each of several releases is taken with the passes it starts before the next one, is the model's choice
(log 16, log 17). -/
def Obligations.ASentMessageHandsItsPlaceOn : Prop :=
  ∀ (s : State) (p : Port) (m : Msg) (rest : List Msg), (s.port p).outbound = m :: rest → s.Settled →
    ((s.port p).link = .qualify ∨ (s.port p).link = .up ∨ (s.port p).link = .parked → (s.port p).waiting = [] →
      exec (.messageSent p) s = .next (s.updPort p fun ps => { ps with outbound := rest })) ∧
    ((s.port p).link = .training → (s.port p).waiting = [] →
      exec (.messageSent p) s = .next (s.updPort p fun ps =>
        { ps with outbound := if rest = [] then [.train s.tpat] else rest })) ∧
    ((s.port p).link = .up → ∀ x w,
      ((s.port p).waiting = .plain x :: w →
        exec (.messageSent p) s = .next (s.updPort p fun ps => { ps with outbound := rest ++ [x], waiting := w })) ∧
      ((s.port p).waiting = .head x :: w → (s.port p).requests.length = 1 →
        exec (.messageSent p) s = .next (s.updPort p fun ps =>
          { ps with outbound := rest ++ [x], waiting := w, requests := [], headAnswering := false })) ∧
      ((s.port p).waiting = .release x :: w → (s.port p).releases.length = 1 →
        exec (.messageSent p) s = .next (s.updPort p fun ps =>
          { ps with outbound := rest ++ [x], waiting := w, releases := [], releaseApplied := false })) ∧
      (∀ first next, (s.port p).waiting = .head x :: w → (s.port p).requests = [first, next] → next.isReceived = true →
        ∃ t, exec (.messageSent p) s = .next t ∧
          t.updPort p (fun ps => { ps with consecBad := 0 }) =
            (s.updPort p fun ps =>
              { ps with outbound := rest ++ [x], waiting := w, requests := [], headAnswering := false }).after
                (next.command p)) ∧
      (∀ first next, (s.port p).waiting = .head x :: w → (s.port p).requests = first :: next →
        (s.port p).requests.length ≤ 8 → (∀ r ∈ next, r.isReceived = true) → s.sweep.activity = .idle →
        (∀ q, q ≠ p → (s.port q).requests = []) →
        ∃ t, exec (.messageSent p) s = .next t ∧
          t.updPort p (fun ps => { ps with consecBad := 0 }) =
            (next.map (Request.command p)).foldl State.after (s.updPort p fun ps =>
              { ps with
                consecBad := 0, outbound := rest ++ [x], waiting := w, requests := [], headAnswering := false })) ∧
      (∀ first next, (s.port p).waiting = .release x :: w → (s.port p).releases = first :: next →
        (s.port p).releases.length ≤ 8 →
        ∃ t, exec (.messageSent p) s = .next t ∧
          t.updPort p (fun ps => { ps with consecBad := 0 }) =
            (next.map (Release.command p)).foldl State.after (s.updPort p fun ps =>
              { ps with
                consecBad := 0, outbound := rest ++ [x], waiting := w, releases := [], releaseApplied := false })))

/-! ## Requests -/

/-- A PERMIT that reaches the head is accepted, whatever a sweep, the slots or the directory hold: the permit latch is set,
DONE{PERMIT} with line 000H is placed, and the PERMIT leaves the queue (R45, R84). -/
def Obligations.PermitSetsTheLatchAndIsAnswered : Prop :=
  ∀ (s : State) (p : Port), s.ReadyForRequest p →
    exec (.permit p) s = .next (s.updPort p fun ps =>
      { ps with consecBad := 0, permit := true, outbound := ps.outbound ++ [.done 0 .permit] })

/-- An acquire request whose line number is above FFFH is refused OUT_OF_RANGE by whatever examination reaches it, in any
state, even while a running sweep holds (R65). The REFUSE carries the line as received, the kind and the reason; nothing else
changes: no notice is latched and no counter is raised. -/
def Obligations.ALineAboveTheArrayIsRefusedOutOfRange : Prop :=
  (∀ (s : State) (p : Port) (a : Acquire), 0x0FFF < a.line.toNat → s.examineAcquire p a = .refuse .outOfRange) ∧
    ∀ (s : State) (p : Port) (k : AcquireKind) (f : LineField) (w : WordNo), s.ReadyForRequest p → 0x0FFF < f.toNat →
      exec (k.command p f w) s = .next (s.updPort p fun ps =>
        { ps with consecBad := 0, outbound := ps.outbound ++ [.refuse f k.answered .outOfRange] })

/-- The refusal checks 2 to 5 in their order (R41, Table 3-3; R66, R104, R131, R138): own ownership, or for LOCK the port's
own lock; the block's mode; an enabled REFUSE watch entry, with its watch event; the limit of two locks. A refusal changes
nothing but the outbound queue, and for WATCH what the watch event changes: the flag of every entry that matches, and the
capture where all four flags were clear (R141, R142). -/
def Obligations.RefusalChecksSettleInTheirOrder : Prop :=
  ∀ (s : State) (p : Port) (k : AcquireKind) (line : LineNo) (w : WordNo), s.ReadyForRequest p →
    let refused := fun (reason : RefuseReason) (u : State) => u.updPort p fun ps =>
      { ps with consecBad := 0, outbound := ps.outbound ++ [.refuse (fieldOf line) k.answered reason] }
    let check2 := if k = .lock then s.lockerOf line = some p else s.ownerOf line = some p
    let check3 := k ≠ .rdShared ∧
      (s.blockMode line = .readOnly ∨ s.blockMode line = .permitMode ∧ (s.port p).permit = false)
    let check4 := ∃ e ∈ s.watch.entries, e.enabled = true ∧ e.refuses = true ∧ e.isMatch p line k.watchClass = true
    let check5 := k = .lock ∧ 2 ≤ s.lockCount p +
      s.txns.countP fun e => e.2.kind == .lockFetch && !e.2.abandoned && e.2.requester == some p
    (check2 → exec (k.command p (fieldOf line) w) s =
      .next (refused (if k = .lock then .alreadyLocked else .alreadyOwner) s)) ∧
    (¬ check2 → check3 → exec (k.command p (fieldOf line) w) s =
      .next (refused (if s.blockMode line = .readOnly then .readOnly else .noPermit) s)) ∧
    (¬ check2 → ¬ check3 → check4 → exec (k.command p (fieldOf line) w) s =
      .next (refused .watch ({ s with watch := s.watch.hit p line k.watchClass .refused }.latch .watch))) ∧
    (¬ check2 → ¬ check3 → ¬ check4 → check5 → exec (k.command p (fieldOf line) w) s =
      .next (refused .lockLimit s)) ∧
    ∀ (c : WatchClass) (o : WatchOutcome), ∃ hits, s.watch.hit p line c o = { s.watch with
        hits := hits, capture := if s.watch.hits = 0 then ⟨p, line, c, o⟩ else s.watch.capture } ∧
      ∀ n : Fin 4, hits.getLsbD n.val = (s.watch.hits.getLsbD n.val || (s.watch.entry n).isMatch p line c)

/-- An RD_SHARED that misses, with a free way and a free slot, is taken and granted in one event (R19, R46, R57, R68, R69,
R72): the FILL carries OWNED where EXCL is 1 and the block is OPEN, else SHARED, with the line's words in wrap order and its
condition, as the line read leaves them: one wrong bit in a unit is corrected, counted and noticed, two poison the line (R2,
R5, R6); the entry stands in the lowest free way at the most recent place, with the port as owner or as sharer; an enabled
watch entry that matches makes a watch event NOTED (R139); the slot is free again with its sequence number advanced; and the
port is the last admitted. Wrap order is upward from the request's word, and from W7 on to W0 (R4); a line's words are those
of R1, each with the byte at its lowest address in bits 7:0 (R178). -/
def Obligations.RdSharedOfAnUnlistedLineIsFilled : Prop :=
  (∀ (w : WordNo) (words : List Word), words.length = 8 →
    (wrapOrder w words).length = 8 ∧ ∀ n < 8, (wrapOrder w words)[n]? = words[(w.toNat + n) % 8]?) ∧
  (∀ (a : Sma) (line : LineNo), (a.lineWords line).length = 8 ∧ ∀ k < 8, ∃ word, (a.lineWords line)[k]? = some word ∧
    ∀ b < 4, word.extractLsb' (8 * b) 8 = Memory.readByte a.bytes (line.toNat * 32 + 4 * k + b)) ∧
  ∀ (s : State) (p : Port) (line : LineNo) (w : WordNo) (way slot : Nat),
    s.ReadyForRequest p → s.Calm → s.SlotFor line slot → s.lookup line = none →
    (s.freeWays (setOf line)).head? = some way → s.Checkable line → s.Unrefused p line .shared →
    let exclusive := s.excl = true ∧ s.blockMode line = .openMode
    let read := s.readThrough line
    exec (.rdShared p (fieldOf line) w) s = .next
      { (read.noted p line .shared).updPort p (fun ps =>
          { ps with
            consecBad := 0
            outbound := ps.outbound ++ [.fill line w (if exclusive then .owned else .shared) (read.sma.cond line)
              (wrapOrder w (read.sma.lineWords line))] }) with
        dir := Store.write [] s.dir (setOf line) (s.setEntries (setOf line) ++
          [⟨line, way, if exclusive then .owned p none else .shared (PortSet.insert PortSet.empty p), none⟩])
        seqs := (s.advanceSeq slot).seqs
        lastAdmitted := p }

/-- RD_OWN, UPGRADE and LOCK that miss, with a free way and a free slot, are taken and granted in one event (R46, R57, R68,
R74, R78, R107 to R109): the FILL carries OWNED, or OWNED_LOCKED for LOCK, and starts at the request's word, at W0 for
UPGRADE; it carries the words and the condition as the line read leaves them, corrected or POISONED (R2, R5, R6); the port is
owner; a LOCK's entry carries its lock until LKT from the placing; a PERMIT block consumes the permit latch, and an OPEN
block leaves it (R134); an enabled watch entry that matches makes a watch event NOTED (R139). -/
def Obligations.OwnershipRequestsOfAnUnlistedLineAreFilled : Prop :=
  ∀ (s : State) (p : Port) (k : AcquireKind) (line : LineNo) (w : WordNo) (way slot : Nat),
    k ≠ .rdShared → s.ReadyForRequest p → s.Calm → s.SlotFor line slot → s.lookup line = none →
    (s.freeWays (setOf line)).head? = some way → s.Checkable line → s.Unrefused p line .own →
    (s.blockMode line = .openMode ∨ s.blockMode line = .permitMode ∧ (s.port p).permit = true) →
    (k = .lock → s.lockCount p + s.lockFetches p < 2) →
    let read := s.readThrough line
    exec (k.command p (fieldOf line) w) s = .next
      { (read.noted p line .own).updPort p (fun ps =>
          { ps with
            consecBad := 0
            permit := if s.blockMode line = .permitMode then false else ps.permit
            outbound := ps.outbound ++ [.fill line (k.firstWord w) (if k = .lock then .ownedLocked else .owned)
              (read.sma.cond line) (wrapOrder (k.firstWord w) (read.sma.lineWords line))] }) with
        dir := Store.write [] s.dir (setOf line) (s.setEntries (setOf line) ++
          [⟨line, way, .owned p (if k = .lock then some (s.now + s.lockLifetime) else none), none⟩])
        seqs := (s.advanceSeq slot).seqs
        lastAdmitted := p }

/-- An RD_SHARED that finds the line SHARED is taken with an empty plan: the FILL carries SHARED and what the line read leaves,
corrected or POISONED (R2, R5, R6), the port is among the sharers, the entry moves to the most recent place (R21, R67, R70),
and an enabled watch entry that matches makes a watch event NOTED (R139). -/
def Obligations.RdSharedOfASharedLineAddsASharer : Prop :=
  ∀ (s : State) (p : Port) (line : LineNo) (w : WordNo) (slot : Nat) (e : Entry) (sharers : PortSet),
    s.ReadyForRequest p → s.Calm → s.SlotFor line slot → s.lookup line = some e → e.holding = .shared sharers →
    s.Checkable line → s.Unrefused p line .shared →
    let read := s.readThrough line
    exec (.rdShared p (fieldOf line) w) s = .next
      { (read.noted p line .shared).updPort p (fun ps =>
          { ps with
            consecBad := 0
            outbound := ps.outbound ++
              [.fill line w .shared (read.sma.cond line) (wrapOrder w (read.sma.lineWords line))] }) with
        dir := Store.write [] s.dir (setOf line) (s.granted line (.shared (PortSet.insert sharers p)))
        seqs := (s.advanceSeq slot).seqs
        lastAdmitted := p }

/-- The grants without data, in an OPEN block: an UPGRADE by the line's only sharer places GRANT{OWNED} and makes it owner
(R77), and a LOCK by the owner of an unlocked line places GRANT{OWNED_LOCKED} and attaches the lock (R107 to R109). No line
read is made. -/
def Obligations.HoldersAreGrantedWithoutData : Prop :=
  ∀ (s : State) (p : Port) (line : LineNo) (slot : Nat) (e : Entry),
    s.ReadyForRequest p → s.Calm → s.SlotFor line slot → s.lookup line = some e → s.Unwatched p line .own →
    s.blockMode line = .openMode →
    (e.holding = .shared (PortSet.insert PortSet.empty p) →
      exec (.upgrade p (fieldOf line)) s = .next
        { s.updPort p (fun ps => { ps with consecBad := 0, outbound := ps.outbound ++ [.grant line .owned] }) with
          dir := Store.write [] s.dir (setOf line) (s.granted line (.owned p none))
          seqs := (s.advanceSeq slot).seqs
          lastAdmitted := p }) ∧
    (e.holding = .owned p none → s.lockCount p + s.lockFetches p < 2 → ∀ w,
      exec (.lock p (fieldOf line) w) s = .next
        { s.updPort p (fun ps => { ps with consecBad := 0, outbound := ps.outbound ++ [.grant line .ownedLocked] }) with
          dir := Store.write [] s.dir (setOf line) (s.granted line (.owned p (some (s.now + s.lockLifetime))))
          seqs := (s.advanceSeq slot).seqs
          lastAdmitted := p })

/-- An acquire request whose line has other holders to recall is taken with those ports as its members (R36, R46, R52, R67,
R71, R75 to R77, R107, Tables 4-2 and 6-1): another owner, unlocked, whatever the request; and for RD_OWN, UPGRADE and LOCK
every sharer of a SHARED line other than the requester. Each RECALL is placed, DOWNGRADE for an RD_SHARED and INVALIDATE for
the others, with the tag of the slot and its advanced sequence number; each member's deadline is RTO from now; the entry is
busy with the slot; the request has left its queue; an ownership request in a PERMIT block consumes the permit latch
(R134). -/
def Obligations.TheOtherHoldersAreRecalled : Prop :=
  ∀ (s : State) (p : Port) (k : AcquireKind) (line : LineNo) (w : WordNo) (slot : Nat) (e : Entry) (recalled : List Port)
    (mode : RecallMode),
    s.ReadyForRequest p → s.Calm → s.SlotFor line slot → s.lookup line = some e →
    (∃ q, q ≠ p ∧ e.holding = .owned q none ∧ recalled = [q] ∧
        mode = if k = .rdShared then RecallMode.downgrade else .invalidate) ∨
      (k ≠ .rdShared ∧ mode = .invalidate ∧ recalled ≠ [] ∧ ∃ sharers, e.holding = .shared sharers ∧
        recalled = [Port.P0, .P1, .P2, .P3].filter fun q => sharers.get q && q != p) →
    (∀ q ∈ recalled, s.Open q) → s.Unrefused p line k.watchClass → s.Allowed p k line →
    (k = .lock → s.lockCount p + s.lockFetches p < 2) →
    let tag := tagFor slot ((s.seq slot + 1) % 16)
    exec (k.command p (fieldOf line) w) s = .next
      { (s.updPort p fun ps => { ps with consecBad := 0, permit := s.permitAfter p k line }).placedIn recalled
          (.recall line tag mode) with
        dir := Store.write [] s.dir (setOf line) ((s.setEntries (setOf line)).map fun e =>
          if e.line = line then { e with busy := some slot } else e)
        txns := Store.put s.txns slot
          { tag := tag
            kind := k.txnKind
            line := line
            word := if k = .upgrade then none else some w
            requester := some p
            phase := .recalling
            abandoned := false
            awaited := recalled.map fun q => ⟨q, mode, .waiting, false, some (s.now + s.recallTimeout)⟩
            partner := none
            grantPending := false }
        seqs := (s.advanceSeq slot).seqs
        lastAdmitted := p }

/-- An acquire request of any kind that misses in a full set takes two slots (R22, R35, R46, R49): its own transaction waits in
WAIT_WAY, without an entry; a VICTIM in the second slot recalls, with INVALIDATE, every holder of the least recent entry that
is neither busy nor locked, each deadline RTO from now; that entry is busy with the second slot; the two records name each
other as partners; an ownership request in a PERMIT block consumes the permit latch (R134). -/
def Obligations.AFullSetGivesUpItsVictim : Prop :=
  ∀ (s : State) (p : Port) (k : AcquireKind) (line : LineNo) (w : WordNo) (slot second : Nat) (more : List Nat) (v : Entry),
    s.ReadyForRequest p → s.Calm → s.txnOn line = none → s.lookup line = none → s.freeWays (setOf line) = [] →
    s.freeSlots = slot :: second :: more → s.victimOf (setOf line) = some v → setOf v.line = setOf line →
    (∀ q, v.holding.names q = true → s.Open q) → s.Unrefused p line k.watchClass → s.Allowed p k line →
    (k = .lock → s.lockCount p + s.lockFetches p < 2) →
    let tag := tagFor second ((s.seq second + 1) % 16)
    exec (k.command p (fieldOf line) w) s = .next
      { (s.updPort p fun ps => { ps with consecBad := 0, permit := s.permitAfter p k line }).placedIn v.holding.holders
          (.recall v.line tag .invalidate) with
        dir := Store.write [] s.dir (setOf line) ((s.setEntries (setOf line)).map fun e =>
          if e.line = v.line then { e with busy := some second } else e)
        txns := Store.put
          (Store.put s.txns slot
            { tag := tagFor slot ((s.seq slot + 1) % 16)
              kind := k.txnKind
              line := line
              word := if k = .upgrade then none else some w
              requester := some p
              phase := .waitWay
              abandoned := false
              awaited := []
              partner := some second
              grantPending := false })
          second
            { tag := tag
              kind := .victim
              line := v.line
              word := none
              requester := none
              phase := .recalling
              abandoned := false
              awaited := v.holding.holders.map fun q =>
                ⟨q, .invalidate, .waiting, false, some (s.now + s.recallTimeout)⟩
              partner := some slot
              grantPending := false }
        seqs := ((s.advanceSeq slot).advanceSeq second).seqs
        lastAdmitted := p }

/-- What is offered to a port whose outbound queue is full, or for which a message waits already, joins the tail of its wait
list, and everything else happens as it would with room (R53).
- A grant (R57): an acquire request of any kind that misses is taken all the same; the transaction stays in GRANTING with
  grant pending, the entry stays busy without a holder, and no line read is made; an ownership request in a PERMIT block
  consumes the permit latch (R134).
- A REFUSE, for a line above FFFH or by any of the checks, or a DONE{PERMIT} of admission (R44, R45): the request stays at the
  head, marked, until its answer is placed.
- The answer to a WRITEBACK, an EVICT or an UNLOCK (R85, R87): the release has its whole effect and stays at the head,
  applied.
- A RECALL (R52): its member has no deadline yet. -/
def Obligations.AMessageWaitsForOutboundSpace : Prop :=
  ∀ (s : State) (p : Port), (s.port p).link = .up → ¬ s.Open p → s.Calm →
    let roomy := s.updPort p fun ps => { ps with outbound := [], waiting := [] }
    (∀ (k : AcquireKind) (line : LineNo) (w : WordNo) (way slot : Nat), (s.port p).headAnswering = false →
      s.SlotFor line slot → s.lookup line = none → (s.freeWays (setOf line)).head? = some way →
      s.Unrefused p line k.watchClass → s.Allowed p k line → (k = .lock → s.lockCount p + s.lockFetches p < 2) →
      exec (k.command p (fieldOf line) w) s = .next
        { s.updPort p (fun ps =>
            { ps with consecBad := 0, permit := s.permitAfter p k line, waiting := ps.waiting ++ [.grant slot] }) with
          dir := Store.write [] s.dir (setOf line) (s.setEntries (setOf line) ++ [⟨line, way, .empty, some slot⟩])
          txns := Store.put s.txns slot
            { tag := tagFor slot ((s.seq slot + 1) % 16)
              kind := k.txnKind
              line := line
              word := if k = .upgrade then none else some w
              requester := some p
              phase := .granting
              abandoned := false
              awaited := []
              partner := none
              grantPending := true }
          seqs := (s.advanceSeq slot).seqs
          lastAdmitted := p }) ∧
    (∀ r : Request, (s.port p).headAnswering = false → r.isReceived = true →
      r = .permit ∨ (∃ a, r = .acquire a ∧
        (0x0FFF < a.line.toNat ∨ ∃ line, a.line = fieldOf line ∧ s.refusal p a.kind line ≠ none)) →
      ∃ u m, exec (r.command p) roomy = .next u ∧ (u.port p).outbound = [m] ∧
        exec (r.command p) s = .next (u.updPort p fun ps =>
          { ps with
            outbound := (s.port p).outbound, waiting := (s.port p).waiting ++ [.head m], requests := [r]
            headAnswering := true })) ∧
    (∀ r : Release, (s.port p).releases = [] → (s.port p).releaseApplied = false →
      (∀ f tag answer, r ≠ .recallAck f tag answer) →
      ∃ u m, exec (r.command p) roomy = .next u ∧ (u.port p).outbound = [m] ∧
        exec (r.command p) s = .next (u.updPort p fun ps =>
          { ps with
            outbound := (s.port p).outbound, waiting := (s.port p).waiting ++ [.release m], releases := [r]
            releaseApplied := true })) ∧
    ∀ (q : Port) (k : AcquireKind) (line : LineNo) (w : WordNo) (slot : Nat) (e : Entry),
      q ≠ p → s.ReadyForRequest q → s.SlotFor line slot → s.lookup line = some e → e.holding = .owned p none →
      s.Unrefused q line k.watchClass → s.Allowed q k line → (k = .lock → s.lockCount q + s.lockFetches q < 2) →
      let mode := if k = .rdShared then RecallMode.downgrade else .invalidate
      let tag := tagFor slot ((s.seq slot + 1) % 16)
      exec (k.command q (fieldOf line) w) s = .next
        { (s.updPort q fun ps => { ps with consecBad := 0, permit := s.permitAfter q k line }).updPort p (fun ps =>
            { ps with waiting := ps.waiting ++ [.recall slot line tag mode] }) with
          dir := Store.write [] s.dir (setOf line) ((s.setEntries (setOf line)).map fun e =>
            if e.line = line then { e with busy := some slot } else e)
          txns := Store.put s.txns slot
            { tag := tag
              kind := k.txnKind
              line := line
              word := if k = .upgrade then none else some w
              requester := some q
              phase := .recalling
              abandoned := false
              awaited := [⟨p, mode, .waiting, false, none⟩]
              partner := none
              grantPending := false }
          seqs := (s.advanceSeq slot).seqs
          lastAdmitted := q }

/-- A request, PERMIT among them, or a release that arrives behind another joins the tail of its queue and nothing else happens
(R85, R155). An acquire request that reaches the head, passes the refusal checks and meets a hold condition of Table 3-4 stays
there and changes nothing (R42): a running sweep holds the port's acquires; a transaction names the line; another port has
locked the line; no slot is free; or, where the line misses in a full set, fewer than two slots are free or every entry of the
set is busy or locked. An event that removes a lock, frees a slot or ends a sweep's holds (State.Clears) examines the heads
again in that event (R25, R40, R47, R59, R106): what it leaves is what it would leave with no request waiting, followed by
the arrival of the one held request, or of two in the order that begins with the port after the last admitted. That a pass
which an examination starts follows the whole of the pass begun is the model's reading (log 15). -/
def Obligations.HeldRequestsWaitAndAreExaminedAgain : Prop :=
  (∀ (s : State) (p : Port), (s.port p).link = .up → s.Settled →
    (∀ r : Request, r.isReceived = true → (s.port p).requests ≠ [] → (s.port p).requests.length < 8 →
      exec (r.command p) s = .next (s.updPort p fun ps => { ps with consecBad := 0, requests := ps.requests ++ [r] })) ∧
    (∀ r : Release, (s.port p).releases ≠ [] → (s.port p).releases.length < 8 →
      exec (r.command p) s = .next (s.updPort p fun ps => { ps with consecBad := 0, releases := ps.releases ++ [r] })) ∧
    ∀ (k : AcquireKind) (line : LineNo) (w : WordNo), (s.port p).requests = [] → s.refusal p k line = none →
      (s.sweep.activity ≠ .idle ∧ (s.sweep.mode = some .all ∨ s.sweep.mode = some (.port p)) ∨
        (∃ x ∈ s.txns, x.2.line = line) ∨ (∃ q, q ≠ p ∧ s.lockerOf line = some q) ∨ s.freeSlots = [] ∨
        s.lookup line = none ∧ s.freeWays (setOf line) = [] ∧
          (s.freeSlots.length < 2 ∨
            ∀ e ∈ s.setEntries (setOf line), e.busy ≠ none ∨ e.holding.lock ≠ none)) →
      exec (k.command p (fieldOf line) w) s = .next (s.updPort p fun ps =>
        { ps with
          consecBad := 0
          requests := [.acquire ⟨k, fieldOf line, if k = .upgrade then none else some w⟩] })) ∧
  ∀ (s : State) (c : Instr) (q : Port) (r : Request), s.Settled → s.Clears c → s.Heads q r →
    let alone := s.updPort q fun ps => { ps with requests := [] }
    ((∀ p, p ≠ q → (s.port p).requests = []) →
      ∃ t, exec c s = .next t ∧
        t.updPort q (fun ps => { ps with consecBad := 0 }) = (alone.after c).after (r.command q)) ∧
    ∀ (q' : Port) (r' : Request), s.Heads q' r' → (∀ p, p ≠ q → p ≠ q' → (s.port p).requests = []) →
      (q.number + 3 - s.lastAdmitted.number) % 4 < (q'.number + 3 - s.lastAdmitted.number) % 4 →
      ∃ t, exec c s = .next t ∧
        (t.updPort q fun ps => { ps with consecBad := 0 }).updPort q' (fun ps => { ps with consecBad := 0 }) =
          (((alone.updPort q' fun ps => { ps with requests := [] }).after c).after (r.command q)).after (r'.command q')

/-- A request on a queue that already holds 8 is an overrun (R156): it is discarded, the overrun count rises to at most 255,
OVERRUN is latched, and REFUSE{OVERRUN} is placed only where the outbound queue has a free place and nothing waits. -/
def Obligations.ANinthRequestIsAnOverrun : Prop :=
  ∀ (s : State) (p : Port) (c : Instr) (f : LineField) (kind : AnsweredKind), (s.port p).link = .up →
    (s.port p).requests.length = 8 →
    (c = .permit p ∧ f = 0 ∧ kind = .permit ∨ ∃ k w, c = AcquireKind.command k p f w ∧ kind = k.answered) →
    ((s.port p).outbound.length < 16 → (s.port p).waiting = [] →
      exec c s = .next ((s.updPort p fun ps =>
        { ps with
          consecBad := 0
          overruns := if ps.overruns = 255 then 255 else ps.overruns + 1
          outbound := ps.outbound ++ [.refuse f kind .overrun] }).latchBoth p .overrun .overrun)) ∧
    (16 ≤ (s.port p).outbound.length ∨ (s.port p).waiting ≠ [] →
      exec c s = .next ((s.updPort p fun ps =>
        { ps with
          consecBad := 0
          overruns := if ps.overruns = 255 then 255 else ps.overruns + 1 }).latchBoth p .overrun .overrun))

/-! ## Releases and recall answers -/

/-- A WRITEBACK that is accepted (R8, R16, R24, R87 to R90): the eight words are stored, every byte outside the line is as it
was, the line is GOOD with nothing wrong in its units, and no other line's condition changes; DONE{WRITEBACK} is placed; an
enabled watch entry that matches makes a watch event NOTED (R140). From the line's owner, no transaction naming the line:
with KEEP the owner is the one sharer, without it the entry is freed, and any lock goes. From an open member, owner or not,
of the transaction on the line: with KEEP an owner is demoted, without it the port is removed, the busy entry stays, and a
WAITING member becomes RELEASED, its attempt and its deadline kept. -/
def Obligations.AWritebackFromTheOwnerStoresItsLine : Prop :=
  ∀ (s : State) (p : Port) (line : LineNo) (keep : Bool) (d : LineData) (e : Entry),
    s.ReadyForRelease p → s.Open p → s.lookup line = some e →
    let stored : State :=
      { (s.noted p line .release).updPort p (fun ps =>
          { ps with consecBad := 0, outbound := ps.outbound ++ [.done (fieldOf line) .writeback] }) with
        sma := s.sma.writeLine line d }
    (∀ lock, s.Calm → s.txnOn line = none → e.holding = .owned p lock → e.busy = none →
      exec (.writeback p (fieldOf line) keep d) s = .next
        { stored with
          dir := Store.write [] s.dir (setOf line)
            (if keep then s.rewritten line (Holding.demote · p) else s.without line) }) ∧
    (∀ slot t m, s.txnOn line = some (slot, t) → s.txn slot = some t → t.member p = some m → m.state ≠ .answered →
      e.busy = some slot → e.holding.lock = none →
      exec (.writeback p (fieldOf line) keep d) s = .next
        { stored with
          dir := Store.write [] s.dir (setOf line)
            (s.rewritten line fun h => if keep then h.demote p else h.removePort p)
          txns := Store.put s.txns slot
            (t.updMember p fun m => if m.state = .waiting then { m with state := .released } else m) }) ∧
    (s.sma.writeLine line d).lineWords line = d.toList ∧
    (∀ a, a < line.toNat * 32 ∨ line.toNat * 32 + 32 ≤ a →
      Memory.readByte (s.sma.writeLine line d).bytes a = Memory.readByte s.sma.bytes a) ∧
    (∀ l, (s.sma.writeLine line d).cond l = if l = line then .good else s.sma.cond l) ∧
    (∀ u < 4, (s.sma.writeLine line d).unitError line u = UnitError.none) ∧
    (s.sma.writeLine line d).cecnt = s.sma.cecnt ∧
    ∀ h l, Holding.demote (.owned h l) h = .shared (PortSet.insert PortSet.empty h)

/-- A WRITEBACK from a port that neither owns the line nor has an open member on it is refused NOT_OWNER, its data is
discarded, and PROTOCOL is latched (R91). -/
def Obligations.AWritebackFromANonOwnerIsRefused : Prop :=
  ∀ (s : State) (p : Port) (line : LineNo) (keep : Bool) (d : LineData), s.ReadyForRelease p → s.Open p →
    s.ownerOf line ≠ some p →
    (∀ x ∈ s.txns, x.2.line = line → ∀ m ∈ x.2.awaited, m.port = p → m.state = .answered) →
    exec (.writeback p (fieldOf line) keep d) s = .next ((s.updPort p fun ps =>
      { ps with
        consecBad := 0
        outbound := ps.outbound ++ [.refuse (fieldOf line) .writeback .notOwner] }).latchBoth p .protocol .protocol)

/-- An EVICT (R24, R92): the port is removed from the line's entry, which is freed where no holder remains and no transaction
has claimed it; the array is as it was; a WAITING member of the transaction on the line becomes RELEASED, its attempt and its
deadline kept; an EVICT of a line that the port does not hold, unlisted, owned by another port or shared without it, changes
nothing; every one is answered DONE{EVICT}. -/
def Obligations.AnEvictRemovesItsPort : Prop :=
  ∀ (s : State) (p : Port) (line : LineNo), s.ReadyForRelease p → s.Open p →
    let answered := s.updPort p fun ps =>
      { ps with consecBad := 0, outbound := ps.outbound ++ [.done (fieldOf line) .evict] }
    (∀ e, s.lookup line = some e → e.busy = none → s.Calm → s.txnOn line = none →
      (e.holding.holders = [p] →
        exec (.evict p (fieldOf line)) s =
          .next { answered with dir := Store.write [] s.dir (setOf line) (s.without line) }) ∧
      (∀ sharers q, e.holding = .shared sharers → q ≠ p → sharers.get q = true →
        exec (.evict p (fieldOf line)) s =
          .next { answered with
            dir := Store.write [] s.dir (setOf line) (s.rewritten line (Holding.removePort · p)) })) ∧
    (s.txnOn line = none → s.lookup line = none → exec (.evict p (fieldOf line)) s = .next answered) ∧
    (∀ e, s.lookup line = some e → s.DirectoryForm → s.txnOn line = none →
      (∃ q, q ≠ p ∧ ∃ lock, e.holding = .owned q lock) ∨
        (∃ sharers q, e.holding = .shared sharers ∧ sharers.get p = false ∧ sharers.get q = true) →
      exec (.evict p (fieldOf line)) s = .next answered) ∧
    ∀ e slot t m, s.lookup line = some e → s.txnOn line = some (slot, t) → s.txn slot = some t → t.member p = some m →
      m.state = .waiting → e.busy = some slot → e.holding.lock = none →
      exec (.evict p (fieldOf line)) s = .next
        { answered with
          dir := Store.write [] s.dir (setOf line) (s.rewritten line (Holding.removePort · p))
          txns := Store.put s.txns slot (t.updMember p fun m =>
            if m.state = .waiting then { m with state := .released } else m) }

/-- An UNLOCK by the port whose lock the line carries removes the lock, leaves the port owner, and is answered DONE{UNLOCK};
every other UNLOCK, a line above FFFH included, is refused NOT_LOCKED and changes nothing else (R113). -/
def Obligations.UnlockEndsOnlyTheSendersLock : Prop :=
  ∀ (s : State) (p : Port) (f : LineField), s.ReadyForRelease p → s.Open p →
    (∀ line, f = fieldOf line → s.lockerOf line = some p → s.Calm →
      exec (.unlock p f) s = .next
        { s.updPort p (fun ps => { ps with consecBad := 0, outbound := ps.outbound ++ [.done f .unlock] }) with
          dir := Store.write [] s.dir (setOf line) (s.rewritten line Holding.dropLock) }) ∧
    ((∀ line, f = fieldOf line → s.lockerOf line ≠ some p) →
      exec (.unlock p f) s = .next (s.updPort p fun ps =>
        { ps with consecBad := 0, outbound := ps.outbound ++ [.refuse f .unlock .notLocked] }))

/-- A RECALL_ACK that matches a WAITING or RELEASED member while another member is still open (R93, R95 to R99, R140): the
member is ANSWERED without a deadline and its waiting RECALL is withdrawn, the second attempt's by R99, the first attempt's
by the model's reading (log 22); under INVALIDATE the port is removed from the busy entry, under DOWNGRADE a WAITING owner is
demoted by DATA or CLEAN and removed by NONE, and a RELEASED member's entry is left; DATA is written to the line, and an
enabled watch entry that matches makes a watch event NOTED, CLEAN leaves the array, NONE poisons the line where the member
was WAITING and its port the owner. The RECALL_ACK is not answered. -/
def Obligations.ARecallAnswerEndsItsMember : Prop :=
  ∀ (s : State) (p : Port) (answer : Answer) (slot : Nat) (t : Txn) (m n : Member) (e : Entry),
    s.ReadyForRelease p → s.txn slot = some t → t.tag.toNat / 16 = slot → t.member p = some m → m.state ≠ .answered →
    n ∈ t.awaited → n.port ≠ p → n.state ≠ .answered → s.lookup t.line = some e → e.busy = some slot →
    e.holding.lock = none →
    exec (.recallAck p (fieldOf t.line) t.tag answer) s = .next
      { (s.afterAnswer p t.line m answer).updPort p (fun ps =>
          { ps with consecBad := 0, waiting := ps.waiting.filter fun o => !o.isRecallOf slot }) with
        dir := Store.write [] s.dir (setOf t.line) (s.rewritten t.line (m.holdingAfter p answer))
        txns := Store.put s.txns slot (t.updMember p fun m => { m with state := .answered, deadline := none }) }

/-- The last answer of an agent transaction's recall is followed at once by its grant, in the same event (R57, R71, R76, R78,
R95 to R99, R140). The answer has its effect: the owner's DATA is written to the line, with its watch test, CLEAN leaves the
array, NONE from a WAITING owner poisons the line; under INVALIDATE the port is removed, under DOWNGRADE it is demoted or
removed. The requester then receives what the array holds, a FILL with the condition POISONED after such a NONE, or an
UPGRADE's GRANT where it is still a sharer: OWNED for an RD_OWN and an UPGRADE, OWNED_LOCKED for a LOCK, and SHARED, never
the exclusive grant, for an RD_SHARED. The slot is free. The member's waiting RECALL is withdrawn, the second attempt's by
R99, the first attempt's by the model's reading (log 22). -/
def Obligations.TheLastAnswerGrantsTheLine : Prop :=
  ∀ (s : State) (p q : Port) (answer : Answer) (slot : Nat) (t : Txn) (m : Member) (e : Entry) (c : WatchClass)
    (fill : Bool) (grant : Grant) (h : Holding),
    p ≠ q → s.ReadyForRelease q → s.Open p → s.Calm → s.txn slot = some t → t.tag.toNat / 16 = slot →
    t.requester = some p → t.abandoned = false → t.phase = .recalling → t.member q = some m → m.state ≠ .answered →
    (∀ n ∈ t.awaited, n.port ≠ q → n.state = .answered) → s.lookup t.line = some e → e.busy = some slot →
    e.holding.lock = none → s.Checkable t.line → s.GrantIs p t (m.holdingAfter q answer e.holding) c fill grant h →
    exec (.recallAck q (fieldOf t.line) t.tag answer) s = .next
      (({ (s.afterAnswer q t.line m answer).updPort q (fun ps =>
            { ps with consecBad := 0, waiting := ps.waiting.filter fun o => !o.isRecallOf slot }) with
          dir := Store.write [] s.dir (setOf t.line) (s.rewritten t.line (m.holdingAfter q answer)) } : State).afterGrant
        p slot t c fill grant h)

/-- Releases that match nothing. A RECALL_ACK that matches no open member is stale: it raises the port's stale-ack count, to
at most 255, and changes nothing else (R93, R94). With a line number above FFFH (R102) a WRITEBACK is refused NOT_OWNER with
PROTOCOL latched, an EVICT is answered DONE, an UNLOCK is refused NOT_LOCKED, a RECALL_ACK is stale, and no entry, no
transaction and no line changes. -/
def Obligations.UnmatchedReleasesAreCountedOrAnswered : Prop :=
  ∀ (s : State) (p : Port) (f : LineField), s.ReadyForRelease p →
    (∀ tag answer, (∀ t m, s.txn (tag.toNat / 16) = some t → t.tag = tag → fieldOf t.line = f → t.member p = some m →
        m.state = .answered) →
      exec (.recallAck p f tag answer) s = .next (s.updPort p fun ps =>
        { ps with consecBad := 0, staleAcks := if ps.staleAcks = 255 then 255 else ps.staleAcks + 1 })) ∧
    (s.Open p → 0x0FFF < f.toNat →
      (∀ keep d, exec (.writeback p f keep d) s = .next ((s.updPort p fun ps =>
        { ps with consecBad := 0, outbound := ps.outbound ++ [.refuse f .writeback .notOwner] }).latchBoth p
          .protocol .protocol)) ∧
      exec (.evict p f) s = .next (s.updPort p fun ps =>
        { ps with consecBad := 0, outbound := ps.outbound ++ [.done f .evict] }) ∧
      exec (.unlock p f) s = .next (s.updPort p fun ps =>
        { ps with consecBad := 0, outbound := ps.outbound ++ [.refuse f .unlock .notLocked] }) ∧
      ∀ tag answer, exec (.recallAck p f tag answer) s = .next (s.updPort p fun ps =>
        { ps with consecBad := 0, staleAcks := if ps.staleAcks = 255 then 255 else ps.staleAcks + 1 }))

/-- The other ends of recalling, at the last answer (R50, R58 to R60, R95 to R99, R124, R125, R140; the withdrawn RECALL of a
first attempt is log 22). The answer has its effect on the array and on the entry; an entry left without a holder is freed,
and one with holders keeps them and is no longer busy.
- A VICTIM completes: its partner, not abandoned, is given the way and its grant is placed; an abandoned partner completes
  with it, and the way stays free.
- An abandoned transaction completes without a grant.
- A SWEEP completes, and the in-flight count falls by one; with others in flight the sweep waits on in CLOSING; the last one
  ends it, COMPLETED with SWEPT to each port it concerns that is UP, or, cancelled, CANCELLED without SWEPT, with SWEEP_DONE
  latched. That the cancel flag stays set after the end is the model's choice (log 33). -/
def Obligations.TheLastAnswerEndsTheTransaction : Prop :=
  ∀ (s : State) (q : Port) (answer : Answer) (slot : Nat) (t : Txn) (m : Member) (e : Entry),
    s.ReadyForRelease q → (∀ p, (s.port p).requests = []) → Store.Rising s.txns → s.SetForm → s.txn slot = some t →
    t.tag.toNat / 16 = slot → t.phase = .recalling → t.member q = some m → m.state ≠ .answered →
    (∀ n ∈ t.awaited, n.port ≠ q → n.state = .answered) → s.lookup t.line = some e → e.busy = some slot →
    e.holding.lock = none →
    let left := m.holdingAfter q answer e.holding
    let ended : State :=
      { (s.afterAnswer q t.line m answer).updPort q (fun ps =>
          { ps with consecBad := 0, waiting := ps.waiting.filter fun o => !o.isRecallOf slot }) with
        dir := Store.write [] s.dir (setOf t.line)
          (if left = .empty then s.without t.line
          else (s.setEntries (setOf t.line)).map fun e =>
            if e.line = t.line then { e with holding := m.holdingAfter q answer e.holding, busy := none } else e)
        txns := Store.erase s.txns slot }
    let command := Instr.recallAck q (fieldOf t.line) t.tag answer
    (∀ k r, t.kind = .victim → left = .empty → s.sweep.activity = .idle → t.partner = some k → k ≠ slot → s.txn k = some r →
      (r.abandoned = true →
        exec command s = .next { ended with txns := Store.erase (Store.erase s.txns slot) k }) ∧
      (∀ p c fill grant h, r.abandoned = false → r.requester = some p → s.Open p → setOf r.line = setOf t.line →
        r.line ≠ t.line → s.lookup r.line = none → s.Checkable r.line → s.GrantIs p r .empty c fill grant h →
        exec command s = .next
          (({ ended with
              dir := Store.write [] s.dir (setOf t.line)
                (s.without t.line ++ [⟨r.line, e.way, .empty, some k⟩]) } : State).afterGrant p k r c fill grant h))) ∧
    (t.kind.isAgent = true → t.abandoned = true → s.sweep.activity = .idle → exec command s = .next ended) ∧
    (t.kind = .sweep → s.sweep.activity = .closing →
      State.sweepsInFlight ended + 1 = s.sweepsInFlight ∧
      (1 < s.sweepsInFlight → exec command s = .next ended) ∧
      (s.sweepsInFlight = 1 → (∀ p, (s.port p).link = .up → s.Open p) →
        ∃ u, exec command s = .next u ∧
          (∀ p, u.port p =
            if (s.port p).link = .up ∧ s.sweep.cancelled = false ∧
                (s.sweep.mode = some .all ∨ s.sweep.mode = some (.port p)) then
              { ended.port p with outbound := (s.port p).outbound ++ [.swept] }
            else ended.port p) ∧
          u = { ended.latch .sweepDone with
            sweep := { s.sweep with
              activity := .idle, last := if s.sweep.cancelled then .cancelled else .completed }
            ports := u.ports }))

/-! ## Timers -/

/-- A recall deadline that runs out at attempt 1 (R52, R54): the attempt becomes 2, a second RECALL with the same line, tag
and mode is placed, and the new deadline is RTO from its placing. The command moves the time on to the deadline where it is
still earlier, no other timer's latest moment coming first (the model's choice: log 4). -/
def Obligations.AFirstTimeoutSendsASecondRecall : Prop :=
  ∀ (s : State) (slot : BitVec 4) (p : Port) (t : Txn) (m : Member) (d : Nat),
    s.txn slot.toNat = some t → t.member p = some m → m.state ≠ .answered → m.second = false → m.deadline = some d →
    s.Open p → s.NoneBefore d →
    let later : State := { s with now := max s.now d }
    exec (.recallTimeout slot p) s = .next
      { later.updPort p (fun ps => { ps with outbound := ps.outbound ++ [.recall t.line t.tag m.mode] }) with
        txns := Store.put s.txns slot.toNat (t.updMember p fun m =>
          { m with second := true, deadline := some (max s.now d + s.recallTimeout) }) }

/-- A lock's expiry (R111): the lock goes and its owner stays, NOTICE LOCK_BROKEN is placed to the owner, and LOCK_BROKEN is
latched. The command moves the time on to the deadline where it is still earlier, no other timer's latest moment coming
first (the model's choice: log 4). -/
def Obligations.AnExpiredLockLeavesItsOwner : Prop :=
  ∀ (s : State) (p : Port) (line : LineNo) (e : Entry) (d : Nat), s.lookup line = some e →
    e.holding = .owned p (some d) → s.Open p → s.Calm → s.NoneBefore d →
    let later : State := { s with now := max s.now d }
    let after : State :=
      { later.updPort p (fun ps => { ps with outbound := ps.outbound ++ [.lockBroken line] }) with
        dir := Store.write [] s.dir (setOf line) (s.rewritten line Holding.dropLock) }
    exec (.lockExpiry line) s = .next (after.latch .lockBroken)

/-- No timer is passed (R10, R56, R110, R153): in every step from a state in which no timer's latest moment is past, none is
past after it. A timer's command lets another timer whose latest moment comes before its own moment run out first, at that
latest moment (the model's choice: log 4). -/
def Obligations.NoStepPassesATimer : Prop :=
  (∀ s t : State, s.Timely → step s = .next t → t.Timely) ∧
    ∀ (s : State) (x y : Timer) (n d : Nat), x ≠ .initialisation → (∀ slot p, x = .recall slot p → slot < 16) →
      s.moment x = some d → s.overdue d = some (n, y) →
      let first := State.runOut { s with now := max s.now n } y
      first.NoneBefore d → first.moment x = some d →
      (n, y) ∈ s.timers ∧ n < d ∧ s.NoneBefore n ∧ exec x.command s = exec x.command first

/-! ## The supervisor's commands -/

/-- PEN_SET and PEN_CLR (R147, R171): each 1 sets the enable of its port in DISABLED, which goes to DOWN, or on to TRAINING
by the test of R148, and clears the enable of its port, which goes to DISABLED with its queues, match count and session
cleared; a 0 does nothing, nor does a 1 for a port whose enable already has the value. An UP port that is disabled is retired
besides (APortThatLeavesUpIsRetired). That a port disabled in PARKED, DOWN or FAULTED keeps its match count and its
consecutive count, which R147 does not name, is the model's reading (log 21). -/
def Obligations.PortEnablesAreSetAndCleared : Prop :=
  ∀ (s : State) (mask : BitVec 4), s.init ≠ .resetLow → s.Silent → s.Settled →
    (∃ t, exec (.portEnableSet mask) s = .next t ∧
      (∀ p, t.port p =
        if mask.getLsbD p.number = true ∧ (s.port p).link = .disabled then
          { s.port p with enable := true, link := .down }.fromDown s.isReady s.tpat
        else s.port p) ∧
      t = { s with ports := t.ports }) ∧
    ((∀ p, mask.getLsbD p.number = true → (s.port p).link ≠ .up) →
      ∃ t, exec (.portEnableClear mask) s = .next t ∧
        (∀ p, t.port p =
          if mask.getLsbD p.number = true then
            match (s.port p).link with
            | .disabled => s.port p
            | .training =>
              { s.port p with
                enable := false, link := .disabled, outbound := [], waiting := [], matchCount := 0,
                pendingLabel := none, qualifyStart := none }
            | .qualify =>
              { s.port p with
                enable := false, link := .disabled, outbound := [], waiting := [], matchCount := 0,
                pendingLabel := none, qualifyStart := none }
            | .parked => { s.port p with enable := false, link := .disabled, outbound := [], waiting := [] }
            | _ => { s.port p with enable := false, link := .disabled }
          else s.port p) ∧
        t = { s with ports := t.ports })

/-- PORT_RESET outside UP and CLEAR_FAULT (R160, R164, R173): the port goes to DOWN with what its state had queued and counted
cleared, and on to TRAINING by the test of R148; a port in DISABLED stays; a clear-fault moves a port in FAULTED only. That
a port reset from PARKED keeps the match count, which R164 does not name, is the model's reading (log 21). -/
def Obligations.PortResetAndClearFaultSendThePortToDown : Prop :=
  ∀ (s : State) (p : Port), s.init ≠ .resetLow → s.Silent →
    ((s.port p).link = .training ∨ (s.port p).link = .qualify →
      exec (.portReset p) s = .next (s.updPort p fun ps =>
        { ps with
          link := .down, outbound := [], waiting := [], matchCount := 0, pendingLabel := none,
          qualifyStart := none }.fromDown s.isReady s.tpat)) ∧
    ((s.port p).link = .parked →
      exec (.portReset p) s = .next (s.updPort p fun ps =>
        { ps with link := .down, outbound := [], waiting := [], consecBad := 0 }.fromDown s.isReady s.tpat)) ∧
    ((s.port p).link = .down ∨ (s.port p).link = .faulted →
      exec (.portReset p) s =
        .next (s.updPort p fun ps => { ps with link := .down }.fromDown s.isReady s.tpat)) ∧
    ((s.port p).link = .disabled → exec (.portReset p) s = .next s) ∧
    ((s.port p).link = .faulted →
      exec (.clearFault p) s =
        .next (s.updPort p fun ps => { ps with link := .down }.fromDown s.isReady s.tpat)) ∧
    ((s.port p).link ≠ .faulted → exec (.clearFault p) s = .next s)

/-! ## Sweeps -/

/-- A start command (R119, R121, R122, R125): with the engine IDLE it is accepted; with an agent transaction of a held port in
flight the sweep waits in DRAINING; over an empty directory, with no request waiting and no transaction in flight, it runs
straight to its end, COMPLETED, with SWEEP_DONE latched and SWEPT placed to each port it concerns that is UP. With the engine
not IDLE it is refused and sets the refused flag only. DRAINING passes to SWEEPING, and the cursor begins at set 00H, way 0,
in the event in which the last agent transaction of a held port completes (a LOCK's grant placed: the cursor then waits at
its lock) or is abandoned (R60, R127: its port lost, its recall of another port still running: a sweep of all ports waits at the busy
entry, one of the lost port finds nothing to recall and ends). -/
def Obligations.ASweepStartsOnlyFromIdle : Prop :=
  ∀ (s : State) (mode : SweepMode), s.init ≠ .resetLow → s.Settled →
    (s.sweep.activity ≠ .idle →
      exec mode.command s = .next { s with sweep := { s.sweep with refused := true } }) ∧
    (s.sweep.activity = .idle →
      (∃ x ∈ s.txns, x.2.kind.isAgent = true ∧ x.2.abandoned = false ∧
        ∃ p, x.2.requester = some p ∧ (mode = .all ∨ mode = .port p)) →
      exec mode.command s = .next { s with sweep := ⟨.draining, some mode, 0, false, .none, false⟩ }) ∧
    (s.Calm → s.dir = [] → s.txns = [] → (∀ p, (s.port p).link = .up → s.Open p) →
      ∃ t, exec mode.command s = .next t ∧
        (∀ p, t.port p =
          if (s.port p).link = .up ∧ (mode = .all ∨ mode = .port p) then
            { s.port p with outbound := (s.port p).outbound ++ [.swept] }
          else s.port p) ∧
        t = { s.latch .sweepDone with
          sweep := ⟨.idle, some mode, 1024, false, .completed, false⟩, ports := t.ports }) ∧
    ∀ (p : Port) (slot : Nat) (t : Txn) (e : Entry), (s.port p).link = .up → (∀ q, (s.port q).requests = []) →
      s.sweep = ⟨.draining, some mode, 0, false, .none, false⟩ → mode = .all ∨ mode = .port p → s.txn slot = some t →
      t.requester = some p → t.abandoned = false → t.kind.isAgent = true →
      (∀ x ∈ s.txns, x.1 ≠ slot → x.2.kind.isAgent = true → x.2.abandoned = false → ∀ q, x.2.requester = some q →
        ¬ (mode = .all ∨ mode = .port q)) →
      s.lookup t.line = some e → e.busy = some slot → s.dir = [(setOf t.line, [e])] → e.way < 4 →
      (∀ m rest w fill h, (s.port p).outbound = m :: rest → (s.port p).waiting = .grant slot :: w → s.Checkable t.line →
        s.GrantIs p t e.holding .own fill .ownedLocked h →
        exec (.messageSent p) s = .next
          { (s.updPort p fun ps => { ps with outbound := rest, waiting := w }).afterGrant p slot t .own fill .ownedLocked h with
            sweep := ⟨.sweeping, some mode, 4 * setOf t.line + e.way, false, .none, false⟩ }) ∧
      (s.LinkForm → s.DirectoryForm → t.phase = .recalling → (∃ n ∈ t.awaited, n.port ≠ p ∧ n.state ≠ .answered) → s.sweepsInFlight = 0 →
        ∃ u, exec (.signalLost p) s = .next u ∧
          (mode = .all → u.sweep = ⟨.sweeping, some .all, 4 * setOf t.line + e.way, false, .none, false⟩) ∧
          (mode = .port p → u.sweep = ⟨.idle, some (.port p), 1024, false, .completed, false⟩))

/-- What the cursor does at a way that holds an entry (Table 7-2), for a sweep of all ports and for one of port p. A Start
recalls every holder, or the port alone (R123). -/
def Obligations.TheCursorPassesWaitsOrStarts : Prop :=
  ∀ e : Entry,
    (e.busy ≠ none ∨ e.holding.lock ≠ none → SweepMode.stepAt .all e = .wait) ∧
    (e.busy = none → e.holding.lock = none → e.holding.holders ≠ [] →
      SweepMode.stepAt .all e = .start e.line e.holding.holders) ∧
    ∀ p,
      (e.holding.names p = false → SweepMode.stepAt (.port p) e = .pass) ∧
      (e.holding.names p = true → e.busy ≠ none ∨ e.holding.lock ≠ none → SweepMode.stepAt (.port p) e = .wait) ∧
      (e.holding.names p = true → e.busy = none → e.holding.lock = none →
        SweepMode.stepAt (.port p) e = .start e.line [p])

/-- The cursor of a running sweep (R36, R48, R52, R121 to R123), over a directory of one entry that the sweep concerns. An
entry that is neither busy nor locked, no transaction in flight: a SWEEP transaction in slot T0 recalls with INVALIDATE every
holder, or the sweep's one port, and the entry is busy with it; the cursor passes the end, and the engine waits in CLOSING.
A cursor that waits for a slot takes the one that a transaction's end frees, in that event. The cursor
waits on its way at a busy or a locked entry, and where no slot is free or four SWEEP transactions are in flight. Examined
again in a later event (an UNLOCK in its set), it waits on for any of those reasons, wherever it stands; and where the lock
that goes is the one it waited for, it starts on the entry after the UNLOCK's answer. -/
def Obligations.ASweepRecallsALinesHolder : Prop :=
  ∀ (s : State) (mode : SweepMode) (q : Port) (e : Entry),
    mode = .all ∨ mode = .port q →
    let stops := e.busy ≠ none ∨ e.holding.lock ≠ none ∨ 4 ≤ s.sweepsInFlight ∨ s.freeSlots = []
    (s.init ≠ .resetLow → s.Settled → s.sweep.activity = .idle → s.dir = [(setOf e.line, [e])] → e.way < 4 →
      (e.holding.names q = true ∨ mode = .all ∧ e.busy ≠ none) → stops →
      (∀ x ∈ s.txns, x.2.kind.isAgent = true → x.2.abandoned = false → ∀ p, x.2.requester = some p →
        ¬ (mode = .all ∨ mode = .port p)) →
      exec mode.command s = .next
        { s with sweep := ⟨.sweeping, some mode, 4 * setOf e.line + e.way, false, .none, false⟩ }) ∧
    (∀ (p : Port) (line : LineNo), s.ReadyForRelease p → s.Open p → (∀ r, (s.port r).requests = []) →
      s.sweep.activity = .sweeping → s.sweep.mode = some mode → s.sweep.cursor < 1024 →
      setOf line = s.sweep.cursor / 4 → s.lockerOf line = some p →
      (s.setEntries (setOf line)).find? (fun e => e.way == s.sweep.cursor % 4) = some e → e.line ≠ line →
      (e.holding.names q = true ∨ mode = .all ∧ e.busy ≠ none) → stops →
      exec (.unlock p (fieldOf line)) s = .next
        { s.updPort p (fun ps => { ps with consecBad := 0, outbound := ps.outbound ++ [.done (fieldOf line) .unlock] }) with
          dir := Store.write [] s.dir (setOf line) (s.rewritten line Holding.dropLock) }) ∧
    (∀ d, s.ReadyForRelease q → s.Open q → (s.port q).outbound.length + 1 < 16 → (∀ r, (s.port r).requests = []) →
      s.sweep = ⟨.sweeping, some mode, 4 * setOf e.line + e.way, false, .none, false⟩ → s.txns = [] →
      s.dir = [(setOf e.line, [e])] → e.way < 4 → e.busy = none → e.holding = .owned q (some d) →
      let tag := tagFor 0 ((s.seq 0 + 1) % 16)
      exec (.unlock q (fieldOf e.line)) s = .next
        { s.updPort q (fun ps =>
            { ps with
              consecBad := 0
              outbound := ps.outbound ++ [.done (fieldOf e.line) .unlock, .recall e.line tag .invalidate] }) with
          dir := [(setOf e.line, [{ e with holding := .owned q none, busy := some 0 }])]
          txns := [(0, (recallRecord .sweep e.line [q] none tag).updMember q fun m =>
            { m with deadline := some (s.now + s.recallTimeout) })]
          seqs := (s.advanceSeq 0).seqs
          sweep := ⟨.closing, some mode, 1024, false, .none, false⟩ }) ∧
    let recalled := if mode = .all then e.holding.holders else [q]
    let record := fun (tag : Tag) =>
      { tag := tag
        kind := TxnKind.sweep
        line := e.line
        word := none
        requester := none
        phase := .recalling
        abandoned := false
        awaited := recalled.map fun r => ⟨r, .invalidate, .waiting, false, some (s.now + s.recallTimeout)⟩
        partner := none
        grantPending := false : Txn }
    e.way < 4 → e.busy = none → e.holding.lock = none → e.holding.names q = true → (∀ r ∈ recalled, s.Open r) →
    (s.init ≠ .resetLow → s.Calm → s.txns = [] → s.dir = [(setOf e.line, [e])] →
      let tag := tagFor 0 ((s.seq 0 + 1) % 16)
      exec mode.command s = .next
        { s.placedIn recalled (.recall e.line tag .invalidate) with
          dir := [(setOf e.line, [{ e with busy := some 0 }])]
          txns := [(0, record tag)]
          seqs := (s.advanceSeq 0).seqs
          sweep := ⟨.closing, some mode, 1024, false, .none, false⟩ }) ∧
    ∀ (p : Port) (slot : Nat) (t : Txn) (m : Member) (e₁ : Entry), s.ReadyForRelease p → (∀ r, (s.port r).requests = []) →
      Store.Rising s.txns → s.SetForm → s.freeSlots = [] → s.sweepsInFlight < 4 → s.txn slot = some t → t.tag.toNat / 16 = slot → t.kind.isAgent = true →
      t.abandoned = true → t.phase = .recalling → t.awaited = [m] → m.port = p → m.state ≠ .answered →
      s.lookup t.line = some e₁ → e₁.busy = some slot → e₁.holding = .empty → t.line ≠ e.line →
      s.lookup e.line = some e → s.sweep = ⟨.sweeping, some mode, 4 * setOf e.line + e.way, false, .none, false⟩ →
      (s.setEntries (setOf e.line)).find? (fun e₂ => e₂.way == e.way) = some e →
      (∀ x ∈ s.dir, ∀ e₂ ∈ x.2, 4 * x.1 + e₂.way ≤ s.sweep.cursor) →
      let freed : State := { s with dir := Store.write [] s.dir (setOf t.line) (s.without t.line) }
      let tag := tagFor slot ((s.seq slot + 1) % 16)
      exec (.recallAck p (fieldOf t.line) t.tag .clean) s = .next
        { (s.updPort p fun ps =>
            { ps with consecBad := 0, waiting := ps.waiting.filter fun o => !o.isRecallOf slot }).placedIn recalled
              (.recall e.line tag .invalidate) with
          dir := Store.write [] freed.dir (setOf e.line) ((freed.setEntries (setOf e.line)).map fun e₂ =>
            if e₂.line = e.line then { e₂ with busy := some slot } else e₂)
          txns := Store.put s.txns slot (record tag)
          seqs := (s.advanceSeq slot).seqs
          sweep := ⟨.closing, some mode, 1024, false, .none, false⟩ }

/-- A cancel (R125, R126): it does nothing to an engine that is IDLE or already cancelled; it stops the cursor for good, and
with SWEEP transactions in flight the engine waits in CLOSING for them; with none in flight the sweep ends at once,
CANCELLED, with SWEEP_DONE latched and no SWEPT. That the cancel flag stays set after the end is the model's choice
(log 33). -/
def Obligations.ACancelStopsTheCursor : Prop :=
  ∀ s : State, s.init ≠ .resetLow → s.Settled →
    (s.sweep.activity = .idle ∨ s.sweep.cancelled = true → exec .cancel s = .next s) ∧
    (s.sweep.activity ≠ .idle → s.sweep.cancelled = false →
      (s.sweepsInFlight ≠ 0 →
        exec .cancel s = .next { s with sweep := { s.sweep with activity := .closing, cancelled := true } }) ∧
      (s.sweepsInFlight = 0 → (∀ p, (s.port p).requests = []) →
        exec .cancel s = .next { s.latch .sweepDone with
          sweep := { s.sweep with activity := .idle, cancelled := true, last := .cancelled } }))

/-! ## Inspect commands -/

/-- An inspect command that ends BUSY, BAD_ADDRESS or HELD, the first that applies (R11, R176): it stores the half field,
replaces INSP_STAT and clears the result, and does nothing else. VIEW stores the half field only. -/
def Obligations.InspectCommandsAreTurnedAwayInOrder : Prop :=
  ∀ (s : State) (high : Bool) (code : InspCode), s.init ≠ .resetLow →
    let ended := fun (status : InspStatus) =>
      { s with insp := { s.insp with high := high, code := code, status := status, result := 0 } }
    let accepted := match code with
      | .txnRead => 16
      | .smRead => 32768
      | .smWrite => 32768
      | _ => 4096
    let tooLarge := accepted ≤ s.insp.addr.toNat
    let held := fun (line : LineNo) => s.lookup line ≠ none ∨ ∃ x ∈ s.txns, x.2.line = line
    (exec (.view high) s = .next { s with insp := { s.insp with high := high } }) ∧
    (code ≠ .none →
      ((∃ start, s.init = .initialising start) → exec (code.command high) s = .next (ended .busy)) ∧
      (s.init = .ready → tooLarge → exec (code.command high) s = .next (ended .badAddress)) ∧
      (s.init = .ready → ¬ tooLarge →
        (code = .smWrite → held (s.insp.addr.extractLsb' 3 12) → exec (code.command high) s = .next (ended .held)) ∧
        (code = .clearPoison → held (s.insp.addr.truncate 12) → exec (code.command high) s = .next (ended .held))))

/-- DIR_READ and TXN_READ (R32, R62, R183, Table 11-7): NO_ENTRY and FREE, and the places of the items of an entry and of a
record; every part that the command does not fill reads 0 (R176): the bits of an item that is absent, of a port that is no
member, and those above the last item; the command changes the Inspect Window only. That what remains of a deadline already
past reads 0 is the model's choice (log 31). -/
def Obligations.DirectoryAndSlotsReadAsTheyStand : Prop :=
  ∀ (s : State) (high : Bool), s.init = .ready →
    (s.insp.addr.toNat < 4096 →
      let line : LineNo := s.insp.addr.truncate 12
      (s.lookup line = none →
        exec (.dirRead high) s = .next
          { s with insp := { s.insp with high := high, code := .dirRead, status := .noEntry, result := 0 } }) ∧
      ∀ e, s.lookup line = some e → e.way < 4 → (∀ n, e.busy = some n → n < 16) →
        (s.setEntries (setOf line)).length ≤ 4 →
        ∃ r, exec (.dirRead high) s = .next
            { s with insp := { s.insp with high := high, code := .dirRead, status := .ok, result := r } } ∧
          r.extractLsb' 0 12 = line ∧ (r.extractLsb' 12 2).toNat = e.way ∧
          (s.setEntries (setOf line))[(r.extractLsb' 14 2).toNat]? = some e ∧
          r.extractLsb' 16 2 = (match e.holding with
            | .empty => 0
            | .shared _ => 1
            | .owned _ _ => 2) ∧
          (∀ p lock, e.holding = .owned p lock →
            r.getLsbD 18 = true ∧ (r.extractLsb' 19 2).toNat = p.number ∧ r.getLsbD 25 = lock.isSome) ∧
          (∀ sharers, e.holding = .shared sharers → ∀ p, r.getLsbD (21 + p.number) = sharers.get p) ∧
          (∀ p d, e.holding = .owned p (some d) →
            (r.extractLsb' 26 2).toNat = p.number ∧ (r.extractLsb' 28 8).toNat = min 255 ((d - s.now) / 1000)) ∧
          r.getLsbD 36 = e.busy.isSome ∧ (∀ n, e.busy = some n → (r.extractLsb' 37 4).toNat = n) ∧
          (e.holding.owner = none → r.extractLsb' 18 3 = 0) ∧ (e.holding.lock = none → r.extractLsb' 25 11 = 0) ∧
          ((∀ sharers, e.holding ≠ .shared sharers) → r.extractLsb' 21 4 = 0) ∧
          (e.busy = none → r.extractLsb' 36 5 = 0) ∧ r.extractLsb' 41 87 = 0) ∧
    (s.insp.addr.toNat < 16 →
      (s.txn s.insp.addr.toNat = none → s.seq s.insp.addr.toNat < 16 →
        exec (.txnRead high) s = .next
          { s with
            insp := { s.insp with
              high := high, code := .txnRead, status := .free
              result := BitVec.ofNat 128 (s.seq s.insp.addr.toNat) } }) ∧
      ∀ t, s.txn s.insp.addr.toNat = some t → (∀ n, t.partner = some n → n < 16) →
        ∃ r, exec (.txnRead high) s = .next
            { s with insp := { s.insp with high := high, code := .txnRead, status := .ok, result := r } } ∧
          r.extractLsb' 0 8 = t.tag ∧ r.extractLsb' 8 3 = (match t.kind with
            | .fetchShared => 0
            | .fetchOwn => 1
            | .upgrade => 2
            | .lockFetch => 3
            | .victim => 4
            | .sweep => 5) ∧
          r.extractLsb' 11 12 = t.line ∧ r.getLsbD 23 = t.word.isSome ∧ (∀ w, t.word = some w → r.extractLsb' 24 3 = w) ∧
          r.getLsbD 27 = t.requester.isSome ∧ (∀ p, t.requester = some p → (r.extractLsb' 28 2).toNat = p.number) ∧
          r.extractLsb' 30 2 = (match t.phase with
            | .waitWay => 0
            | .recalling => 1
            | .granting => 2) ∧
          r.getLsbD 32 = t.abandoned ∧ r.getLsbD 33 = t.partner.isSome ∧
          (∀ n, t.partner = some n → (r.extractLsb' 34 4).toNat = n) ∧ r.getLsbD 38 = t.grantPending ∧
          (t.word = none → r.extractLsb' 24 3 = 0) ∧ (t.requester = none → r.extractLsb' 28 2 = 0) ∧
          (t.partner = none → r.extractLsb' 34 4 = 0) ∧ r.extractLsb' 39 25 = 0 ∧
          (∀ p, t.member p = none → r.extractLsb' (64 + 16 * p.number) 16 = 0) ∧
          (∀ p, r.extractLsb' (64 + 16 * p.number + 14) 2 = 0 ∧
            ∀ m, t.member p = some m → m.deadline = none → r.extractLsb' (64 + 16 * p.number + 6) 8 = 0) ∧
          ∀ p, r.getLsbD (64 + 16 * p.number) = (t.member p).isSome ∧
            ∀ m, t.member p = some m →
              r.getLsbD (64 + 16 * p.number + 1) = (m.mode == .downgrade) ∧
              r.extractLsb' (64 + 16 * p.number + 2) 2 = (match m.state with
                | .waiting => 0
                | .released => 1
                | .answered => 2) ∧
              r.getLsbD (64 + 16 * p.number + 4) = m.second ∧
              r.getLsbD (64 + 16 * p.number + 5) = m.deadline.isSome ∧
              ∀ d, m.deadline = some d →
                (r.extractLsb' (64 + 16 * p.number + 6) 8).toNat = min 255 ((d - s.now) / 16))

/-- SM_READ (R3, R5, R6, R9): it returns the word and the line's condition as the checking leaves them. A unit with nothing
wrong is left; one wrong bit, in the data or in the check bits, is corrected and written back, CECNT rises to at most 65535
and CORRECTED is latched; two wrong bits poison the line and latch POISON, and leave the unit. The result has the word in bits
31:0, 1 for POISONED in bit 32, and 0 above (R183, Table 11-7). -/
def Obligations.SmReadChecksTheUnitOfItsWord : Prop :=
  (∀ (word : Word) (c : Condition), (wordResult word c).extractLsb' 0 32 = word ∧
      (wordResult word c).getLsbD 32 = (c == .poisoned) ∧ (wordResult word c).extractLsb' 33 95 = 0) ∧
  ∀ (s : State) (high : Bool), s.init = .ready → s.insp.addr.toNat < 32768 →
    let line : LineNo := s.insp.addr.extractLsb' 3 12
    let k := s.insp.addr.toNat % 8
    let wrong := s.sma.unitError line (k / 2)
    let read := fun (u : State) =>
      { u with
        insp := { s.insp with
          high := high, code := .smRead, status := .ok
          result := wordResult (u.sma.word line k) (u.sma.cond line) } }
    let lo := s.sma.word line (2 * (k / 2)) ^^^ wrong.lo
    let hi := s.sma.word line (2 * (k / 2) + 1) ^^^ wrong.hi
    (wrong = UnitError.none → exec (.smRead high) s = .next (read s)) ∧
    (wrong.weight = 1 →
      exec (.smRead high) s = .next (read ({ s with
        sma := { s.sma.writeUnit line (k / 2) lo hi with
          cecnt := if s.sma.cecnt = 0xFFFF then 0xFFFF else s.sma.cecnt + 1 } }.latch .corrected)) ∧
      (s.sma.writeUnit line (k / 2) lo hi).unitError line (k / 2) = UnitError.none ∧
      (s.sma.writeUnit line (k / 2) lo hi).word line k = if k % 2 = 0 then lo else hi) ∧
    (wrong.weight = 2 →
      exec (.smRead high) s = .next (read ({ s with sma := s.sma.setCond line .poisoned }.latch .poison)))

/-- SM_WRITE and CLEAR_POISON, for a line that is not held (R9, R176, R177). SM_WRITE first reads the unit: one wrong bit is
corrected, counted and noticed, and two poison the line and latch POISON (R5, R6). Then the word of INSP_W1 and INSP_W0 is
stored beside the other word as read, every byte outside the word is as the read left it, the unit reads clean, every other
unit is as it was, and the write changes no condition: on a clean unit nothing but the word changes. The result has the word in
bits 31:0, 1 for POISONED in bit 32, and 0 above (R183, Table 11-7). CLEAR_POISON makes the line GOOD and changes no data. -/
def Obligations.TheSupervisorRepairsALine : Prop :=
  (∀ (word : Word) (c : Condition), (wordResult word c).extractLsb' 0 32 = word ∧
      (wordResult word c).getLsbD 32 = (c == .poisoned) ∧ (wordResult word c).extractLsb' 33 95 = 0) ∧
  ∀ (s : State) (high : Bool), s.init = .ready →
    (s.insp.addr.toNat < 32768 →
      let line : LineNo := s.insp.addr.extractLsb' 3 12
      let k := s.insp.addr.toNat % 8
      let read := s.readUnit line (k / 2)
      s.lookup line = none → s.txnOn line = none → (s.sma.unitError line (k / 2)).weight ≤ 2 →
      ∃ t, exec (.smWrite high) s = .next t ∧
        t = { read with
          sma := t.sma
          insp := { s.insp with
            high := high, code := .smWrite, status := .ok
            result := wordResult (s.insp.w1 ++ s.insp.w0) (read.sma.cond line) } } ∧
        t.sma.word line k = s.insp.w1 ++ s.insp.w0 ∧
        (∀ a, a < line.toNat * 32 + 4 * k ∨ line.toNat * 32 + 4 * k + 4 ≤ a →
          Memory.readByte t.sma.bytes a = Memory.readByte read.sma.bytes a) ∧
        t.sma.unitError line (k / 2) = UnitError.none ∧ t.sma.conds = read.sma.conds ∧ t.sma.cecnt = read.sma.cecnt ∧
        (∀ l u, unitNumber l u ≠ unitNumber line (k / 2) → t.sma.unitError l u = s.sma.unitError l u) ∧
        (s.sma.unitError line (k / 2) = UnitError.none → read = s)) ∧
    (s.insp.addr.toNat < 4096 →
      let line : LineNo := s.insp.addr.truncate 12
      s.lookup line = none → s.txnOn line = none →
      exec (.clearPoison high) s = .next { s with
        sma := s.sma.setCond line .good
        insp := { s.insp with high := high, code := .clearPoison, status := .ok, result := 0 } } ∧
      ∀ l, (s.sma.setCond line .good).cond l = if l = line then .good else s.sma.cond l)

/-! ## Registers -/

/-- Reads of NSTAT and PSTATn (R165, R167): the eighth bit captures the register's value; at the completion the latches that
were 1 in it are cleared, but one that was latched again since stays, and one that was 0 is not cleared. Reading the one
register leaves the other. That the capture is a command of its own and its value is taken away at the completion is the
model's way of spreading a transfer over commands (log 24), and the count of captures is the model's own field (log 12). -/
def Obligations.ACompletedReadClearsWhatItReturned : Prop :=
  ∀ (s : State), s.init ≠ .resetLow →
    (∀ index, exec (.capture index) s =
      .next { s with capture := some ⟨index, s.readReg index, 0⟩, draws := s.draws + 1 }) ∧
    (∀ value again, s.capture = some ⟨0x01, value, again⟩ →
      exec .nstatRead s = .next { s with nstat := s.nstat &&& ~~~(value &&& ~~~again), capture := none }) ∧
    (∀ n : Notice, s.capture = some ⟨0x01, s.nstat, 0⟩ →
      exec .nstatRead (s.latch n) = .next { s with nstat := n.bit, capture := none }) ∧
    (∀ p value again, s.capture = some ⟨BitVec.ofNat 7 (0x40 + 0x10 * p.number), value, again⟩ →
      exec (.pstatRead p) s = .next { s.updPort p (fun ps => { ps with latches := ps.latches &&& ~~~(value &&& ~~~again) }) with
        capture := none }) ∧
    (∀ p (l : PortLatch), s.capture = some ⟨BitVec.ofNat 7 (0x40 + 0x10 * p.number), (s.port p).latches, 0⟩ →
      exec (.pstatRead p) (s.latchPort p l) =
        .next { s.updPort p (fun ps => { ps with latches := l.bit }) with capture := none })

/-- Writes to registers (R130, R136, R143, R166, R169, R172, R174, R176, R181): NMASK takes the eleven enables, and IRQ_N is
low exactly where a flag that is set has its enable set; a write clears its one counter; a write to the hit flags clears
those that it names with a 1, and neither the capture nor the WATCH notice; a read/write register reads back what was written
at its fields' positions and 0 elsewhere, every other register reads as before, and nothing but the settings changes.
What the settings mean (Table 11-4): a block's two bits give OPEN, PERMIT or READONLY, the fourth value too acting as READONLY
(R130); a watch entry matches an access to a line of its range, of one of its classes, by a port of its filter, a SESSION
entry only where its filter names that port alone (R136, R137); RTO is n × 16 µs and LKT n ms, 0 acting as 1 (R56, R110). -/
def Obligations.RegistersAreWritten : Prop :=
  (∀ (s : State) (line : LineNo),
    let b := line.toNat / 256
    let bit := fun (j : Nat) => if b < 8 then s.prot0.getLsbD (2 * b + j) else s.prot1.getLsbD (2 * (b - 8) + j)
    s.blockMode line = if bit 1 then .readOnly else if bit 0 then .permitMode else .openMode) ∧
  (∀ (e : WatchEntry) (p : Port) (line : LineNo) (c : WatchClass),
    let span := 2 ^ (e.ctl.extractLsb' 0 3).toNat
    let first := e.base.toNat / span * span
    (e.isMatch p line c = true ↔ first ≤ line.toNat ∧ line.toNat < first + span ∧
      e.ctl.getLsbD (match c with
        | .shared => 3
        | .own => 4
        | .release => 5) = true ∧
      e.ctl.getLsbD (6 + p.number) = true ∧
      (e.ctl.getLsbD 10 = true → ∀ q : Port, e.ctl.getLsbD (6 + q.number) = true → q = p)) ∧
    e.isSession = e.ctl.getLsbD 10 ∧ e.refuses = e.ctl.getLsbD 11 ∧ e.enabled = e.ctl.getLsbD 12) ∧
  (∀ s : State, s.recallTimeout = 16 * (if s.rto = 0 then 1 else s.rto.toNat) ∧
    s.lockLifetime = 1000 * (if s.lkt = 0 then 1 else s.lkt.toNat)) ∧
  ∀ (s : State), s.init ≠ .resetLow →
    (∀ value, exec (.nmaskWrite value) s = .next { s with nmask := value &&& 0x07FF } ∧
      State.irqLow { s with nmask := value &&& 0x07FF } =
        decide (∃ n : Nat, n < 11 ∧ s.nstat.getLsbD n = true ∧ value.getLsbD n = true)) ∧
    (∀ p, exec (.counterClear (.badFrames p)) s = .next (s.updPort p fun ps => { ps with badFrames := 0 }) ∧
      exec (.counterClear (.overruns p)) s = .next (s.updPort p fun ps => { ps with overruns := 0 }) ∧
      exec (.counterClear (.staleAcks p)) s = .next (s.updPort p fun ps => { ps with staleAcks := 0 })) ∧
    exec (.counterClear .corrected) s = .next { s with sma := { s.sma with cecnt := 0 } } ∧
    (∀ flags, ∃ hits, exec (.hitFlagClear flags) s = .next { s with watch := { s.watch with hits := hits } } ∧
      ∀ k, hits.getLsbD k = (s.watch.hits.getLsbD k && !flags.getLsbD k)) ∧
    ∀ (r : SettingReg) (value : Reg16),
      ∃ t, exec (.registerWrite r value) s = .next t ∧ t.readReg (settingIndex r) = value &&& settingFields r ∧
        (∀ index, index ≠ settingIndex r → t.readReg index = s.readReg index) ∧
        t = { s with
          excl := t.excl, rto := t.rto, lkt := t.lkt, tpat := t.tpat, prot0 := t.prot0, prot1 := t.prot1
          watch := t.watch, insp := t.insp }

/-- A transfer takes its commands only after exactly 24 bits, and has no effect while RESET_N is low (R165); a write to SWCTL
takes CANCEL, START_ALL and START_PORT in that order (R182), and one to PCTLn the port reset before the clear-fault (R173); a
read of NSTAT or of a PSTATn is the one read with an effect (R166). Each other writable index takes the one command of its
register (R143, R165, R169, R171, R172, R174 to R176, Tables 11-4 to 11-6): GCTL a soft reset where SOFT_RESET is 1, INSP_CMD
the command of its code; an index that names no writable register takes none. MDOUT is released with no transfer in progress and while
RESET_N is low; it is low on a transfer's first eight bits, and then carries the value that the register had at the eighth,
most significant bit first (R165, R181). That transfers stand beside the step is log 24 and log 26. -/
def Obligations.TransfersTakeTheirCommandsInOrder : Prop :=
  (∀ count w, count ≠ 24 → transferCommands count w = []) ∧
    (∀ (s : State) (c : Instr), s.init = .resetLow → isManagement c = true → exec c s = .next s) ∧
    (∀ s : State, s.mdout none = none ∧ (s.init = .resetLow → ∀ bit, s.mdout bit = none) ∧
      (s.init ≠ .resetLow →
        (∀ k : Fin 24, k.val < 8 → s.mdout (some k) = some false) ∧
        ∀ index, ∃ t, exec (.capture index) s = .next t ∧
          ∀ k : Fin 24, 8 ≤ k.val → t.mdout (some k) = some ((s.readReg index).getLsbD (23 - k.val)))) ∧
    (∀ value : Reg16, transferCommands 24 (0x8B#8 ++ value) =
      (if value.getLsbD 4 then [.cancel] else []) ++ (if value.getLsbD 0 then [.sweepAll] else []) ++
        (if value.getLsbD 1 then [.sweepPort (Port.ofNumber (value.extractLsb' 2 2).toNat)] else [])) ∧
    (∀ (p : Port) (value : Reg16), transferCommands 24 (BitVec.ofNat 8 (0xC2 + 0x10 * p.number) ++ value) =
      (if value.getLsbD 0 then [.portReset p] else []) ++ (if value.getLsbD 1 then [.clearFault p] else [])) ∧
    (∀ (index : BitVec 7) (value : Reg16), transferCommands 24 (0#1 ++ index ++ value) =
      if index = 0x01 then [.nstatRead]
      else if index = 0x40 then [.pstatRead .P0]
      else if index = 0x50 then [.pstatRead .P1]
      else if index = 0x60 then [.pstatRead .P2]
      else if index = 0x70 then [.pstatRead .P3]
      else []) ∧
    (∀ value : Reg16,
      transferCommands 24 (0x83#8 ++ value) = [.nmaskWrite value] ∧
      transferCommands 24 (0x84#8 ++ value) =
        (if value.getLsbD 15 then [.softReset (value.getLsbD 0)] else [.registerWrite .gctl value]) ∧
      transferCommands 24 (0x88#8 ++ value) = [.portEnableSet (value.extractLsb' 0 4)] ∧
      transferCommands 24 (0x89#8 ++ value) = [.portEnableClear (value.extractLsb' 0 4)] ∧
      transferCommands 24 (0x8A#8 ++ value) = [.counterClear .corrected] ∧
      transferCommands 24 (0x98#8 ++ value) = [.hitFlagClear (value.extractLsb' 0 4)] ∧
      (∀ r, r ≠ .gctl → transferCommands 24 (1#1 ++ settingIndex r ++ value) = [.registerWrite r value]) ∧
      (∀ p : Port, ∀ c ∈ [(0xC6, Counter.badFrames p), (0xC7, Counter.overruns p), (0xC8, Counter.staleAcks p)],
        transferCommands 24 (BitVec.ofNat 8 (c.1 + 0x10 * p.number) ++ value) = [.counterClear c.2]) ∧
      (∀ code ∈ [(0, InspCode.none), (1, .dirRead), (2, .txnRead), (3, .smRead), (4, .smWrite), (5, .clearPoison),
          (6, .none), (7, .none)],
        (value.extractLsb' 0 3).toNat = code.1 →
          transferCommands 24 (0xA1#8 ++ value) = [code.2.command (value.getLsbD 4)])) ∧
    ∀ (index : BitVec 7) (value : Reg16),
      index.toNat ≤ 0x02 ∨ index = 0x0C ∨ index = 0x0D ∨ 0x19 ≤ index.toNat ∧ index.toNat ≤ 0x1F ∨
        0x22 ≤ index.toNat ∧ index.toNat ≤ 0x26 ∨ 0x29 ≤ index.toNat ∧ index.toNat ≤ 0x3F ∨
        0x40 ≤ index.toNat ∧ index.toNat % 16 ∉ [2, 6, 7, 8] →
      transferCommands 24 (1#1 ++ index ++ value) = []

/-! ## Frames -/

/-- Messages and frames (R178 to R180). Every agent message survives its frame: the command read from the frame that carries
it, check bytes included, is the command, with every operand at every value. The hub's own messages: each has the bytes of
Tables 11-1 to 11-3 before its check, and two messages that are not the same have frames that are not the same. The step
takes commands: that frames are written and read beside it is the model's choice (log 26). -/
def Obligations.MessagesSurviveTheirFrames : Prop :=
  (∀ (c : Instr) (p : Port) (body : List Byte), agentBody c = some (p, body) → readFrame p (framed body) = c) ∧
    (∀ m n : Msg, m.frame = n.frame → m = n) ∧
    ∀ (line : LineNo) (f : LineField) (word : WordNo) (tag : Tag) (pattern : Byte) (data : List Word) (p : Port),
      let high : Byte := 0#4 ++ line.extractLsb' 8 4
      let low : Byte := line.extractLsb' 0 8
      (∀ g ∈ [(Grant.shared, (0 : Byte)), (.owned, 1), (.ownedLocked, 2)],
        (Msg.grant line g.1).frame = framed [0x41, high, low, 0, g.2, 0] ∧
        ∀ c ∈ [(Condition.good, (0 : Byte)), (.poisoned, 1)],
          (Msg.fill line word g.1 c.1 data).frame =
            framed ([0x40, high, low, 0#5 ++ word, g.2, c.2] ++
              data.flatMap fun w => [w.extractLsb' 0 8, w.extractLsb' 8 8, w.extractLsb' 16 8, w.extractLsb' 24 8])) ∧
      (∀ k ∈ [(AnsweredKind.rdShared, (0x01 : Byte)), (.rdOwn, 0x02), (.upgrade, 0x03), (.lock, 0x04), (.permit, 0x05),
          (.writeback, 0x10), (.evict, 0x11), (.unlock, 0x12)],
        (Msg.done f k.1).frame = framed [0x42, f.extractLsb' 8 8, f.extractLsb' 0 8, k.2, 0, 0] ∧
        ∀ r ∈ [(RefuseReason.outOfRange, (1 : Byte)), (.alreadyOwner, 2), (.alreadyLocked, 3), (.readOnly, 4),
            (.noPermit, 5), (.watch, 6), (.lockLimit, 7), (.overrun, 8), (.notOwner, 9), (.notLocked, 10)],
          (Msg.refuse f k.1 r.1).frame = framed [0x43, f.extractLsb' 8 8, f.extractLsb' 0 8, k.2, r.2, 0]) ∧
      (∀ mode ∈ [(RecallMode.invalidate, (0 : Byte)), (.downgrade, 1)],
        (Msg.recall line tag mode.1).frame = framed [0x44, high, low, tag, mode.2, 0]) ∧
      (Msg.lockBroken line).frame = framed [0x45, high, low, 1, 0, 0] ∧ Msg.swept.frame = framed [0x45, 0, 0, 2, 0, 0] ∧
      (Msg.train pattern).frame = framed [0x60, pattern, 0, 0, 0, 0] ∧
      (Msg.hello p).frame = framed [0x61, BitVec.ofNat 8 p.number, 0x08, 0x08, 0x02, 0x10] ∧
      Msg.parked.frame = framed [0x62, 0, 0, 0, 0, 0] ∧
      (Msg.parkRefused .holdings).frame = framed [0x63, 0, 0, 1, 0, 0] ∧
      (Msg.parkRefused .active).frame = framed [0x63, 0, 0, 2, 0, 0] ∧ Msg.awake.frame = framed [0x64, 0, 0, 0, 0, 0]

/-! ## What every step keeps -/

/-- Every step keeps the directory and the Transaction Table in agreement: a set lists a line once, and at most four entries
in distinct ways (R14); no two transactions name one line (R37); a port holds at most two locks (R105). The invariant carries
besides what these rest on: busy marks and claims (R17, R19), WAIT_WAY and its VICTIM (R49, R50), grants (R57, R60), the
recalls of a LOCK (R107). -/
def Obligations.EveryStepKeepsTheDirectoryForm : Prop :=
  (∀ s t : State, s.DirectoryForm → step s = .next t → t.DirectoryForm) ∧
    ∀ s : State, s.DirectoryForm →
      (∀ x y : Nat × Txn, x ∈ s.txns → y ∈ s.txns → x.2.line = y.2.line → x = y) ∧ ∀ p, s.lockCount p ≤ 2

/-- The forms that the step lemmas speak of hold at reset: the array lists nothing (log 7, the model's choice), the directory
and the table are empty (R33, R63), no timer runs, no notice is latched (R168), and every port is as Table 9-1 says
(R146). -/
def Obligations.TheFormsHoldAtReset : Prop :=
  State.reset.StorageForm ∧ State.reset.PortForms ∧ State.reset.TableForm ∧ State.reset.LinkForm ∧
    State.reset.NoticeForm ∧ State.reset.DirectoryForm ∧ State.reset.Timely

/-- Every step keeps the array's stores canonical (log 7). -/
def Obligations.EveryStepKeepsTheStorageForm : Prop :=
  ∀ s t : State, s.StorageForm → step s = .next t → t.StorageForm

/-- Every step keeps each Port Controller's items within Table 9-1, and the notice registers within their eleven positions
(R134, R146, R147, R155, Table 11-6). -/
def Obligations.EveryStepKeepsThePortForms : Prop :=
  ∀ s t : State, s.PortForms → s.NoticeForm → step s = .next t → t.PortForms ∧ t.NoticeForm

/-- Every step keeps the Transaction Table's form: sixteen slots, tags formed from slot and sequence number, at most four
SWEEP transactions (R35, R36). -/
def Obligations.EveryStepKeepsTheTableForm : Prop :=
  ∀ s t : State, s.TableForm → step s = .next t → t.TableForm

/-- Every step keeps the links' form: every holder, every requester of a transaction that is not abandoned and every member
still awaited is UP (R163), a transaction awaits a port once (R39), and a port that sends nothing has nothing to send
(R157). -/
def Obligations.EveryStepKeepsTheLinkForm : Prop :=
  ∀ s t : State, s.LinkForm → step s = .next t → t.LinkForm
end

