-- ==== Sys2Proof/Laws/State.lean ====
section
/-! SUPPORT. What each update of State leaves as it was, one lemma a field. -/

namespace Sys2Proof.Machine

@[simp] theorem State.updPort_now (s : State) (p : Port) (f : PortState → PortState) : (s.updPort p f).now = s.now := rfl
@[simp] theorem State.updPort_init (s : State) (p : Port) (f : PortState → PortState) : (s.updPort p f).init = s.init := rfl
@[simp] theorem State.updPort_sma (s : State) (p : Port) (f : PortState → PortState) : (s.updPort p f).sma = s.sma := rfl
@[simp] theorem State.updPort_dir (s : State) (p : Port) (f : PortState → PortState) : (s.updPort p f).dir = s.dir := rfl
@[simp] theorem State.updPort_txns (s : State) (p : Port) (f : PortState → PortState) : (s.updPort p f).txns = s.txns := rfl
@[simp] theorem State.updPort_seqs (s : State) (p : Port) (f : PortState → PortState) : (s.updPort p f).seqs = s.seqs := rfl
@[simp] theorem State.updPort_lastAdmitted (s : State) (p : Port) (f : PortState → PortState) : (s.updPort p f).lastAdmitted = s.lastAdmitted := rfl
@[simp] theorem State.updPort_sweep (s : State) (p : Port) (f : PortState → PortState) : (s.updPort p f).sweep = s.sweep := rfl
@[simp] theorem State.updPort_prot0 (s : State) (p : Port) (f : PortState → PortState) : (s.updPort p f).prot0 = s.prot0 := rfl
@[simp] theorem State.updPort_prot1 (s : State) (p : Port) (f : PortState → PortState) : (s.updPort p f).prot1 = s.prot1 := rfl
@[simp] theorem State.updPort_watch (s : State) (p : Port) (f : PortState → PortState) : (s.updPort p f).watch = s.watch := rfl
@[simp] theorem State.updPort_nstat (s : State) (p : Port) (f : PortState → PortState) : (s.updPort p f).nstat = s.nstat := rfl
@[simp] theorem State.updPort_nmask (s : State) (p : Port) (f : PortState → PortState) : (s.updPort p f).nmask = s.nmask := rfl
@[simp] theorem State.updPort_excl (s : State) (p : Port) (f : PortState → PortState) : (s.updPort p f).excl = s.excl := rfl
@[simp] theorem State.updPort_rto (s : State) (p : Port) (f : PortState → PortState) : (s.updPort p f).rto = s.rto := rfl
@[simp] theorem State.updPort_lkt (s : State) (p : Port) (f : PortState → PortState) : (s.updPort p f).lkt = s.lkt := rfl
@[simp] theorem State.updPort_tpat (s : State) (p : Port) (f : PortState → PortState) : (s.updPort p f).tpat = s.tpat := rfl
@[simp] theorem State.updPort_insp (s : State) (p : Port) (f : PortState → PortState) : (s.updPort p f).insp = s.insp := rfl
@[simp] theorem State.updPort_capture (s : State) (p : Port) (f : PortState → PortState) : (s.updPort p f).capture = s.capture := rfl
@[simp] theorem State.updPort_work (s : State) (p : Port) (f : PortState → PortState) : (s.updPort p f).work = s.work := rfl
@[simp] theorem State.updPort_draws (s : State) (p : Port) (f : PortState → PortState) : (s.updPort p f).draws = s.draws := rfl
@[simp] theorem State.updPort_pending (s : State) (p : Port) (f : PortState → PortState) : (s.updPort p f).pending = s.pending := rfl

@[simp] theorem State.putSet_now (s : State) (set : Nat) (es : List Entry) : (s.putSet set es).now = s.now := rfl
@[simp] theorem State.putSet_init (s : State) (set : Nat) (es : List Entry) : (s.putSet set es).init = s.init := rfl
@[simp] theorem State.putSet_sma (s : State) (set : Nat) (es : List Entry) : (s.putSet set es).sma = s.sma := rfl
@[simp] theorem State.putSet_txns (s : State) (set : Nat) (es : List Entry) : (s.putSet set es).txns = s.txns := rfl
@[simp] theorem State.putSet_seqs (s : State) (set : Nat) (es : List Entry) : (s.putSet set es).seqs = s.seqs := rfl
@[simp] theorem State.putSet_lastAdmitted (s : State) (set : Nat) (es : List Entry) : (s.putSet set es).lastAdmitted = s.lastAdmitted := rfl
@[simp] theorem State.putSet_ports (s : State) (set : Nat) (es : List Entry) : (s.putSet set es).ports = s.ports := rfl
@[simp] theorem State.putSet_sweep (s : State) (set : Nat) (es : List Entry) : (s.putSet set es).sweep = s.sweep := rfl
@[simp] theorem State.putSet_prot0 (s : State) (set : Nat) (es : List Entry) : (s.putSet set es).prot0 = s.prot0 := rfl
@[simp] theorem State.putSet_prot1 (s : State) (set : Nat) (es : List Entry) : (s.putSet set es).prot1 = s.prot1 := rfl
@[simp] theorem State.putSet_watch (s : State) (set : Nat) (es : List Entry) : (s.putSet set es).watch = s.watch := rfl
@[simp] theorem State.putSet_nstat (s : State) (set : Nat) (es : List Entry) : (s.putSet set es).nstat = s.nstat := rfl
@[simp] theorem State.putSet_nmask (s : State) (set : Nat) (es : List Entry) : (s.putSet set es).nmask = s.nmask := rfl
@[simp] theorem State.putSet_excl (s : State) (set : Nat) (es : List Entry) : (s.putSet set es).excl = s.excl := rfl
@[simp] theorem State.putSet_rto (s : State) (set : Nat) (es : List Entry) : (s.putSet set es).rto = s.rto := rfl
@[simp] theorem State.putSet_lkt (s : State) (set : Nat) (es : List Entry) : (s.putSet set es).lkt = s.lkt := rfl
@[simp] theorem State.putSet_tpat (s : State) (set : Nat) (es : List Entry) : (s.putSet set es).tpat = s.tpat := rfl
@[simp] theorem State.putSet_insp (s : State) (set : Nat) (es : List Entry) : (s.putSet set es).insp = s.insp := rfl
@[simp] theorem State.putSet_capture (s : State) (set : Nat) (es : List Entry) : (s.putSet set es).capture = s.capture := rfl
@[simp] theorem State.putSet_work (s : State) (set : Nat) (es : List Entry) : (s.putSet set es).work = s.work := rfl
@[simp] theorem State.putSet_draws (s : State) (set : Nat) (es : List Entry) : (s.putSet set es).draws = s.draws := rfl
@[simp] theorem State.putSet_pending (s : State) (set : Nat) (es : List Entry) : (s.putSet set es).pending = s.pending := rfl

@[simp] theorem State.putTxn_now (s : State) (n : Nat) (t : Txn) : (s.putTxn n t).now = s.now := rfl
@[simp] theorem State.putTxn_init (s : State) (n : Nat) (t : Txn) : (s.putTxn n t).init = s.init := rfl
@[simp] theorem State.putTxn_sma (s : State) (n : Nat) (t : Txn) : (s.putTxn n t).sma = s.sma := rfl
@[simp] theorem State.putTxn_dir (s : State) (n : Nat) (t : Txn) : (s.putTxn n t).dir = s.dir := rfl
@[simp] theorem State.putTxn_seqs (s : State) (n : Nat) (t : Txn) : (s.putTxn n t).seqs = s.seqs := rfl
@[simp] theorem State.putTxn_lastAdmitted (s : State) (n : Nat) (t : Txn) : (s.putTxn n t).lastAdmitted = s.lastAdmitted := rfl
@[simp] theorem State.putTxn_ports (s : State) (n : Nat) (t : Txn) : (s.putTxn n t).ports = s.ports := rfl
@[simp] theorem State.putTxn_sweep (s : State) (n : Nat) (t : Txn) : (s.putTxn n t).sweep = s.sweep := rfl
@[simp] theorem State.putTxn_prot0 (s : State) (n : Nat) (t : Txn) : (s.putTxn n t).prot0 = s.prot0 := rfl
@[simp] theorem State.putTxn_prot1 (s : State) (n : Nat) (t : Txn) : (s.putTxn n t).prot1 = s.prot1 := rfl
@[simp] theorem State.putTxn_watch (s : State) (n : Nat) (t : Txn) : (s.putTxn n t).watch = s.watch := rfl
@[simp] theorem State.putTxn_nstat (s : State) (n : Nat) (t : Txn) : (s.putTxn n t).nstat = s.nstat := rfl
@[simp] theorem State.putTxn_nmask (s : State) (n : Nat) (t : Txn) : (s.putTxn n t).nmask = s.nmask := rfl
@[simp] theorem State.putTxn_excl (s : State) (n : Nat) (t : Txn) : (s.putTxn n t).excl = s.excl := rfl
@[simp] theorem State.putTxn_rto (s : State) (n : Nat) (t : Txn) : (s.putTxn n t).rto = s.rto := rfl
@[simp] theorem State.putTxn_lkt (s : State) (n : Nat) (t : Txn) : (s.putTxn n t).lkt = s.lkt := rfl
@[simp] theorem State.putTxn_tpat (s : State) (n : Nat) (t : Txn) : (s.putTxn n t).tpat = s.tpat := rfl
@[simp] theorem State.putTxn_insp (s : State) (n : Nat) (t : Txn) : (s.putTxn n t).insp = s.insp := rfl
@[simp] theorem State.putTxn_capture (s : State) (n : Nat) (t : Txn) : (s.putTxn n t).capture = s.capture := rfl
@[simp] theorem State.putTxn_work (s : State) (n : Nat) (t : Txn) : (s.putTxn n t).work = s.work := rfl
@[simp] theorem State.putTxn_draws (s : State) (n : Nat) (t : Txn) : (s.putTxn n t).draws = s.draws := rfl
@[simp] theorem State.putTxn_pending (s : State) (n : Nat) (t : Txn) : (s.putTxn n t).pending = s.pending := rfl

@[simp] theorem State.advanceSeq_now (s : State) (n : Nat) : (s.advanceSeq n).now = s.now := rfl
@[simp] theorem State.advanceSeq_init (s : State) (n : Nat) : (s.advanceSeq n).init = s.init := rfl
@[simp] theorem State.advanceSeq_sma (s : State) (n : Nat) : (s.advanceSeq n).sma = s.sma := rfl
@[simp] theorem State.advanceSeq_dir (s : State) (n : Nat) : (s.advanceSeq n).dir = s.dir := rfl
@[simp] theorem State.advanceSeq_txns (s : State) (n : Nat) : (s.advanceSeq n).txns = s.txns := rfl
@[simp] theorem State.advanceSeq_lastAdmitted (s : State) (n : Nat) : (s.advanceSeq n).lastAdmitted = s.lastAdmitted := rfl
@[simp] theorem State.advanceSeq_ports (s : State) (n : Nat) : (s.advanceSeq n).ports = s.ports := rfl
@[simp] theorem State.advanceSeq_sweep (s : State) (n : Nat) : (s.advanceSeq n).sweep = s.sweep := rfl
@[simp] theorem State.advanceSeq_prot0 (s : State) (n : Nat) : (s.advanceSeq n).prot0 = s.prot0 := rfl
@[simp] theorem State.advanceSeq_prot1 (s : State) (n : Nat) : (s.advanceSeq n).prot1 = s.prot1 := rfl
@[simp] theorem State.advanceSeq_watch (s : State) (n : Nat) : (s.advanceSeq n).watch = s.watch := rfl
@[simp] theorem State.advanceSeq_nstat (s : State) (n : Nat) : (s.advanceSeq n).nstat = s.nstat := rfl
@[simp] theorem State.advanceSeq_nmask (s : State) (n : Nat) : (s.advanceSeq n).nmask = s.nmask := rfl
@[simp] theorem State.advanceSeq_excl (s : State) (n : Nat) : (s.advanceSeq n).excl = s.excl := rfl
@[simp] theorem State.advanceSeq_rto (s : State) (n : Nat) : (s.advanceSeq n).rto = s.rto := rfl
@[simp] theorem State.advanceSeq_lkt (s : State) (n : Nat) : (s.advanceSeq n).lkt = s.lkt := rfl
@[simp] theorem State.advanceSeq_tpat (s : State) (n : Nat) : (s.advanceSeq n).tpat = s.tpat := rfl
@[simp] theorem State.advanceSeq_insp (s : State) (n : Nat) : (s.advanceSeq n).insp = s.insp := rfl
@[simp] theorem State.advanceSeq_capture (s : State) (n : Nat) : (s.advanceSeq n).capture = s.capture := rfl
@[simp] theorem State.advanceSeq_work (s : State) (n : Nat) : (s.advanceSeq n).work = s.work := rfl
@[simp] theorem State.advanceSeq_draws (s : State) (n : Nat) : (s.advanceSeq n).draws = s.draws := rfl
@[simp] theorem State.advanceSeq_pending (s : State) (n : Nat) : (s.advanceSeq n).pending = s.pending := rfl

@[simp] theorem State.atLeast_init (s : State) (t : Nat) : (s.atLeast t).init = s.init := rfl
@[simp] theorem State.atLeast_sma (s : State) (t : Nat) : (s.atLeast t).sma = s.sma := rfl
@[simp] theorem State.atLeast_dir (s : State) (t : Nat) : (s.atLeast t).dir = s.dir := rfl
@[simp] theorem State.atLeast_txns (s : State) (t : Nat) : (s.atLeast t).txns = s.txns := rfl
@[simp] theorem State.atLeast_seqs (s : State) (t : Nat) : (s.atLeast t).seqs = s.seqs := rfl
@[simp] theorem State.atLeast_lastAdmitted (s : State) (t : Nat) : (s.atLeast t).lastAdmitted = s.lastAdmitted := rfl
@[simp] theorem State.atLeast_ports (s : State) (t : Nat) : (s.atLeast t).ports = s.ports := rfl
@[simp] theorem State.atLeast_sweep (s : State) (t : Nat) : (s.atLeast t).sweep = s.sweep := rfl
@[simp] theorem State.atLeast_prot0 (s : State) (t : Nat) : (s.atLeast t).prot0 = s.prot0 := rfl
@[simp] theorem State.atLeast_prot1 (s : State) (t : Nat) : (s.atLeast t).prot1 = s.prot1 := rfl
@[simp] theorem State.atLeast_watch (s : State) (t : Nat) : (s.atLeast t).watch = s.watch := rfl
@[simp] theorem State.atLeast_nstat (s : State) (t : Nat) : (s.atLeast t).nstat = s.nstat := rfl
@[simp] theorem State.atLeast_nmask (s : State) (t : Nat) : (s.atLeast t).nmask = s.nmask := rfl
@[simp] theorem State.atLeast_excl (s : State) (t : Nat) : (s.atLeast t).excl = s.excl := rfl
@[simp] theorem State.atLeast_rto (s : State) (t : Nat) : (s.atLeast t).rto = s.rto := rfl
@[simp] theorem State.atLeast_lkt (s : State) (t : Nat) : (s.atLeast t).lkt = s.lkt := rfl
@[simp] theorem State.atLeast_tpat (s : State) (t : Nat) : (s.atLeast t).tpat = s.tpat := rfl
@[simp] theorem State.atLeast_insp (s : State) (t : Nat) : (s.atLeast t).insp = s.insp := rfl
@[simp] theorem State.atLeast_capture (s : State) (t : Nat) : (s.atLeast t).capture = s.capture := rfl
@[simp] theorem State.atLeast_work (s : State) (t : Nat) : (s.atLeast t).work = s.work := rfl
@[simp] theorem State.atLeast_draws (s : State) (t : Nat) : (s.atLeast t).draws = s.draws := rfl
@[simp] theorem State.atLeast_pending (s : State) (t : Nat) : (s.atLeast t).pending = s.pending := rfl

@[simp] theorem State.latch_now (s : State) (n : Notice) : (s.latch n).now = s.now := rfl
@[simp] theorem State.latch_init (s : State) (n : Notice) : (s.latch n).init = s.init := rfl
@[simp] theorem State.latch_sma (s : State) (n : Notice) : (s.latch n).sma = s.sma := rfl
@[simp] theorem State.latch_dir (s : State) (n : Notice) : (s.latch n).dir = s.dir := rfl
@[simp] theorem State.latch_txns (s : State) (n : Notice) : (s.latch n).txns = s.txns := rfl
@[simp] theorem State.latch_seqs (s : State) (n : Notice) : (s.latch n).seqs = s.seqs := rfl
@[simp] theorem State.latch_lastAdmitted (s : State) (n : Notice) : (s.latch n).lastAdmitted = s.lastAdmitted := rfl
@[simp] theorem State.latch_ports (s : State) (n : Notice) : (s.latch n).ports = s.ports := rfl
@[simp] theorem State.latch_sweep (s : State) (n : Notice) : (s.latch n).sweep = s.sweep := rfl
@[simp] theorem State.latch_prot0 (s : State) (n : Notice) : (s.latch n).prot0 = s.prot0 := rfl
@[simp] theorem State.latch_prot1 (s : State) (n : Notice) : (s.latch n).prot1 = s.prot1 := rfl
@[simp] theorem State.latch_watch (s : State) (n : Notice) : (s.latch n).watch = s.watch := rfl
@[simp] theorem State.latch_nmask (s : State) (n : Notice) : (s.latch n).nmask = s.nmask := rfl
@[simp] theorem State.latch_excl (s : State) (n : Notice) : (s.latch n).excl = s.excl := rfl
@[simp] theorem State.latch_rto (s : State) (n : Notice) : (s.latch n).rto = s.rto := rfl
@[simp] theorem State.latch_lkt (s : State) (n : Notice) : (s.latch n).lkt = s.lkt := rfl
@[simp] theorem State.latch_tpat (s : State) (n : Notice) : (s.latch n).tpat = s.tpat := rfl
@[simp] theorem State.latch_insp (s : State) (n : Notice) : (s.latch n).insp = s.insp := rfl
@[simp] theorem State.latch_work (s : State) (n : Notice) : (s.latch n).work = s.work := rfl
@[simp] theorem State.latch_draws (s : State) (n : Notice) : (s.latch n).draws = s.draws := rfl
@[simp] theorem State.latch_pending (s : State) (n : Notice) : (s.latch n).pending = s.pending := rfl

@[simp] theorem State.latchPort_now (s : State) (p : Port) (l : PortLatch) : (s.latchPort p l).now = s.now := rfl
@[simp] theorem State.latchPort_init (s : State) (p : Port) (l : PortLatch) : (s.latchPort p l).init = s.init := rfl
@[simp] theorem State.latchPort_sma (s : State) (p : Port) (l : PortLatch) : (s.latchPort p l).sma = s.sma := rfl
@[simp] theorem State.latchPort_dir (s : State) (p : Port) (l : PortLatch) : (s.latchPort p l).dir = s.dir := rfl
@[simp] theorem State.latchPort_txns (s : State) (p : Port) (l : PortLatch) : (s.latchPort p l).txns = s.txns := rfl
@[simp] theorem State.latchPort_seqs (s : State) (p : Port) (l : PortLatch) : (s.latchPort p l).seqs = s.seqs := rfl
@[simp] theorem State.latchPort_lastAdmitted (s : State) (p : Port) (l : PortLatch) : (s.latchPort p l).lastAdmitted = s.lastAdmitted := rfl
@[simp] theorem State.latchPort_sweep (s : State) (p : Port) (l : PortLatch) : (s.latchPort p l).sweep = s.sweep := rfl
@[simp] theorem State.latchPort_prot0 (s : State) (p : Port) (l : PortLatch) : (s.latchPort p l).prot0 = s.prot0 := rfl
@[simp] theorem State.latchPort_prot1 (s : State) (p : Port) (l : PortLatch) : (s.latchPort p l).prot1 = s.prot1 := rfl
@[simp] theorem State.latchPort_watch (s : State) (p : Port) (l : PortLatch) : (s.latchPort p l).watch = s.watch := rfl
@[simp] theorem State.latchPort_nstat (s : State) (p : Port) (l : PortLatch) : (s.latchPort p l).nstat = s.nstat := rfl
@[simp] theorem State.latchPort_nmask (s : State) (p : Port) (l : PortLatch) : (s.latchPort p l).nmask = s.nmask := rfl
@[simp] theorem State.latchPort_excl (s : State) (p : Port) (l : PortLatch) : (s.latchPort p l).excl = s.excl := rfl
@[simp] theorem State.latchPort_rto (s : State) (p : Port) (l : PortLatch) : (s.latchPort p l).rto = s.rto := rfl
@[simp] theorem State.latchPort_lkt (s : State) (p : Port) (l : PortLatch) : (s.latchPort p l).lkt = s.lkt := rfl
@[simp] theorem State.latchPort_tpat (s : State) (p : Port) (l : PortLatch) : (s.latchPort p l).tpat = s.tpat := rfl
@[simp] theorem State.latchPort_insp (s : State) (p : Port) (l : PortLatch) : (s.latchPort p l).insp = s.insp := rfl
@[simp] theorem State.latchPort_work (s : State) (p : Port) (l : PortLatch) : (s.latchPort p l).work = s.work := rfl
@[simp] theorem State.latchPort_draws (s : State) (p : Port) (l : PortLatch) : (s.latchPort p l).draws = s.draws := rfl
@[simp] theorem State.latchPort_pending (s : State) (p : Port) (l : PortLatch) : (s.latchPort p l).pending = s.pending := rfl

@[simp] theorem State.latchBoth_now (s : State) (p : Port) (n : Notice) (l : PortLatch) : (s.latchBoth p n l).now = s.now := rfl
@[simp] theorem State.latchBoth_init (s : State) (p : Port) (n : Notice) (l : PortLatch) : (s.latchBoth p n l).init = s.init := rfl
@[simp] theorem State.latchBoth_sma (s : State) (p : Port) (n : Notice) (l : PortLatch) : (s.latchBoth p n l).sma = s.sma := rfl
@[simp] theorem State.latchBoth_dir (s : State) (p : Port) (n : Notice) (l : PortLatch) : (s.latchBoth p n l).dir = s.dir := rfl
@[simp] theorem State.latchBoth_txns (s : State) (p : Port) (n : Notice) (l : PortLatch) : (s.latchBoth p n l).txns = s.txns := rfl
@[simp] theorem State.latchBoth_seqs (s : State) (p : Port) (n : Notice) (l : PortLatch) : (s.latchBoth p n l).seqs = s.seqs := rfl
@[simp] theorem State.latchBoth_lastAdmitted (s : State) (p : Port) (n : Notice) (l : PortLatch) : (s.latchBoth p n l).lastAdmitted = s.lastAdmitted := rfl
@[simp] theorem State.latchBoth_sweep (s : State) (p : Port) (n : Notice) (l : PortLatch) : (s.latchBoth p n l).sweep = s.sweep := rfl
@[simp] theorem State.latchBoth_prot0 (s : State) (p : Port) (n : Notice) (l : PortLatch) : (s.latchBoth p n l).prot0 = s.prot0 := rfl
@[simp] theorem State.latchBoth_prot1 (s : State) (p : Port) (n : Notice) (l : PortLatch) : (s.latchBoth p n l).prot1 = s.prot1 := rfl
@[simp] theorem State.latchBoth_watch (s : State) (p : Port) (n : Notice) (l : PortLatch) : (s.latchBoth p n l).watch = s.watch := rfl
@[simp] theorem State.latchBoth_nmask (s : State) (p : Port) (n : Notice) (l : PortLatch) : (s.latchBoth p n l).nmask = s.nmask := rfl
@[simp] theorem State.latchBoth_excl (s : State) (p : Port) (n : Notice) (l : PortLatch) : (s.latchBoth p n l).excl = s.excl := rfl
@[simp] theorem State.latchBoth_rto (s : State) (p : Port) (n : Notice) (l : PortLatch) : (s.latchBoth p n l).rto = s.rto := rfl
@[simp] theorem State.latchBoth_lkt (s : State) (p : Port) (n : Notice) (l : PortLatch) : (s.latchBoth p n l).lkt = s.lkt := rfl
@[simp] theorem State.latchBoth_tpat (s : State) (p : Port) (n : Notice) (l : PortLatch) : (s.latchBoth p n l).tpat = s.tpat := rfl
@[simp] theorem State.latchBoth_insp (s : State) (p : Port) (n : Notice) (l : PortLatch) : (s.latchBoth p n l).insp = s.insp := rfl
@[simp] theorem State.latchBoth_work (s : State) (p : Port) (n : Notice) (l : PortLatch) : (s.latchBoth p n l).work = s.work := rfl
@[simp] theorem State.latchBoth_draws (s : State) (p : Port) (n : Notice) (l : PortLatch) : (s.latchBoth p n l).draws = s.draws := rfl
@[simp] theorem State.latchBoth_pending (s : State) (p : Port) (n : Notice) (l : PortLatch) : (s.latchBoth p n l).pending = s.pending := rfl

@[simp] theorem State.raiseCecnt_now (s : State) : (s.raiseCecnt).now = s.now := rfl
@[simp] theorem State.raiseCecnt_init (s : State) : (s.raiseCecnt).init = s.init := rfl
@[simp] theorem State.raiseCecnt_dir (s : State) : (s.raiseCecnt).dir = s.dir := rfl
@[simp] theorem State.raiseCecnt_txns (s : State) : (s.raiseCecnt).txns = s.txns := rfl
@[simp] theorem State.raiseCecnt_seqs (s : State) : (s.raiseCecnt).seqs = s.seqs := rfl
@[simp] theorem State.raiseCecnt_lastAdmitted (s : State) : (s.raiseCecnt).lastAdmitted = s.lastAdmitted := rfl
@[simp] theorem State.raiseCecnt_ports (s : State) : (s.raiseCecnt).ports = s.ports := rfl
@[simp] theorem State.raiseCecnt_sweep (s : State) : (s.raiseCecnt).sweep = s.sweep := rfl
@[simp] theorem State.raiseCecnt_prot0 (s : State) : (s.raiseCecnt).prot0 = s.prot0 := rfl
@[simp] theorem State.raiseCecnt_prot1 (s : State) : (s.raiseCecnt).prot1 = s.prot1 := rfl
@[simp] theorem State.raiseCecnt_watch (s : State) : (s.raiseCecnt).watch = s.watch := rfl
@[simp] theorem State.raiseCecnt_nstat (s : State) : (s.raiseCecnt).nstat = s.nstat := rfl
@[simp] theorem State.raiseCecnt_nmask (s : State) : (s.raiseCecnt).nmask = s.nmask := rfl
@[simp] theorem State.raiseCecnt_excl (s : State) : (s.raiseCecnt).excl = s.excl := rfl
@[simp] theorem State.raiseCecnt_rto (s : State) : (s.raiseCecnt).rto = s.rto := rfl
@[simp] theorem State.raiseCecnt_lkt (s : State) : (s.raiseCecnt).lkt = s.lkt := rfl
@[simp] theorem State.raiseCecnt_tpat (s : State) : (s.raiseCecnt).tpat = s.tpat := rfl
@[simp] theorem State.raiseCecnt_insp (s : State) : (s.raiseCecnt).insp = s.insp := rfl
@[simp] theorem State.raiseCecnt_capture (s : State) : (s.raiseCecnt).capture = s.capture := rfl
@[simp] theorem State.raiseCecnt_work (s : State) : (s.raiseCecnt).work = s.work := rfl
@[simp] theorem State.raiseCecnt_draws (s : State) : (s.raiseCecnt).draws = s.draws := rfl
@[simp] theorem State.raiseCecnt_pending (s : State) : (s.raiseCecnt).pending = s.pending := rfl

@[simp] theorem State.report_now (s : State) (set : Nat) : (s.report set).now = s.now := rfl
@[simp] theorem State.report_init (s : State) (set : Nat) : (s.report set).init = s.init := rfl
@[simp] theorem State.report_sma (s : State) (set : Nat) : (s.report set).sma = s.sma := rfl
@[simp] theorem State.report_dir (s : State) (set : Nat) : (s.report set).dir = s.dir := rfl
@[simp] theorem State.report_txns (s : State) (set : Nat) : (s.report set).txns = s.txns := rfl
@[simp] theorem State.report_seqs (s : State) (set : Nat) : (s.report set).seqs = s.seqs := rfl
@[simp] theorem State.report_lastAdmitted (s : State) (set : Nat) : (s.report set).lastAdmitted = s.lastAdmitted := rfl
@[simp] theorem State.report_ports (s : State) (set : Nat) : (s.report set).ports = s.ports := rfl
@[simp] theorem State.report_sweep (s : State) (set : Nat) : (s.report set).sweep = s.sweep := rfl
@[simp] theorem State.report_prot0 (s : State) (set : Nat) : (s.report set).prot0 = s.prot0 := rfl
@[simp] theorem State.report_prot1 (s : State) (set : Nat) : (s.report set).prot1 = s.prot1 := rfl
@[simp] theorem State.report_watch (s : State) (set : Nat) : (s.report set).watch = s.watch := rfl
@[simp] theorem State.report_nstat (s : State) (set : Nat) : (s.report set).nstat = s.nstat := rfl
@[simp] theorem State.report_nmask (s : State) (set : Nat) : (s.report set).nmask = s.nmask := rfl
@[simp] theorem State.report_excl (s : State) (set : Nat) : (s.report set).excl = s.excl := rfl
@[simp] theorem State.report_rto (s : State) (set : Nat) : (s.report set).rto = s.rto := rfl
@[simp] theorem State.report_lkt (s : State) (set : Nat) : (s.report set).lkt = s.lkt := rfl
@[simp] theorem State.report_tpat (s : State) (set : Nat) : (s.report set).tpat = s.tpat := rfl
@[simp] theorem State.report_insp (s : State) (set : Nat) : (s.report set).insp = s.insp := rfl
@[simp] theorem State.report_capture (s : State) (set : Nat) : (s.report set).capture = s.capture := rfl
@[simp] theorem State.report_draws (s : State) (set : Nat) : (s.report set).draws = s.draws := rfl
@[simp] theorem State.report_pending (s : State) (set : Nat) : (s.report set).pending = s.pending := rfl

@[simp] theorem State.reportSlot_now (s : State) : (s.reportSlot).now = s.now := rfl
@[simp] theorem State.reportSlot_init (s : State) : (s.reportSlot).init = s.init := rfl
@[simp] theorem State.reportSlot_sma (s : State) : (s.reportSlot).sma = s.sma := rfl
@[simp] theorem State.reportSlot_dir (s : State) : (s.reportSlot).dir = s.dir := rfl
@[simp] theorem State.reportSlot_txns (s : State) : (s.reportSlot).txns = s.txns := rfl
@[simp] theorem State.reportSlot_seqs (s : State) : (s.reportSlot).seqs = s.seqs := rfl
@[simp] theorem State.reportSlot_lastAdmitted (s : State) : (s.reportSlot).lastAdmitted = s.lastAdmitted := rfl
@[simp] theorem State.reportSlot_ports (s : State) : (s.reportSlot).ports = s.ports := rfl
@[simp] theorem State.reportSlot_sweep (s : State) : (s.reportSlot).sweep = s.sweep := rfl
@[simp] theorem State.reportSlot_prot0 (s : State) : (s.reportSlot).prot0 = s.prot0 := rfl
@[simp] theorem State.reportSlot_prot1 (s : State) : (s.reportSlot).prot1 = s.prot1 := rfl
@[simp] theorem State.reportSlot_watch (s : State) : (s.reportSlot).watch = s.watch := rfl
@[simp] theorem State.reportSlot_nstat (s : State) : (s.reportSlot).nstat = s.nstat := rfl
@[simp] theorem State.reportSlot_nmask (s : State) : (s.reportSlot).nmask = s.nmask := rfl
@[simp] theorem State.reportSlot_excl (s : State) : (s.reportSlot).excl = s.excl := rfl
@[simp] theorem State.reportSlot_rto (s : State) : (s.reportSlot).rto = s.rto := rfl
@[simp] theorem State.reportSlot_lkt (s : State) : (s.reportSlot).lkt = s.lkt := rfl
@[simp] theorem State.reportSlot_tpat (s : State) : (s.reportSlot).tpat = s.tpat := rfl
@[simp] theorem State.reportSlot_insp (s : State) : (s.reportSlot).insp = s.insp := rfl
@[simp] theorem State.reportSlot_capture (s : State) : (s.reportSlot).capture = s.capture := rfl
@[simp] theorem State.reportSlot_draws (s : State) : (s.reportSlot).draws = s.draws := rfl
@[simp] theorem State.reportSlot_pending (s : State) : (s.reportSlot).pending = s.pending := rfl

@[simp] theorem State.advanceCursor_now (s : State) : (s.advanceCursor).now = s.now := rfl
@[simp] theorem State.advanceCursor_init (s : State) : (s.advanceCursor).init = s.init := rfl
@[simp] theorem State.advanceCursor_sma (s : State) : (s.advanceCursor).sma = s.sma := rfl
@[simp] theorem State.advanceCursor_dir (s : State) : (s.advanceCursor).dir = s.dir := rfl
@[simp] theorem State.advanceCursor_txns (s : State) : (s.advanceCursor).txns = s.txns := rfl
@[simp] theorem State.advanceCursor_seqs (s : State) : (s.advanceCursor).seqs = s.seqs := rfl
@[simp] theorem State.advanceCursor_lastAdmitted (s : State) : (s.advanceCursor).lastAdmitted = s.lastAdmitted := rfl
@[simp] theorem State.advanceCursor_ports (s : State) : (s.advanceCursor).ports = s.ports := rfl
@[simp] theorem State.advanceCursor_prot0 (s : State) : (s.advanceCursor).prot0 = s.prot0 := rfl
@[simp] theorem State.advanceCursor_prot1 (s : State) : (s.advanceCursor).prot1 = s.prot1 := rfl
@[simp] theorem State.advanceCursor_watch (s : State) : (s.advanceCursor).watch = s.watch := rfl
@[simp] theorem State.advanceCursor_nstat (s : State) : (s.advanceCursor).nstat = s.nstat := rfl
@[simp] theorem State.advanceCursor_nmask (s : State) : (s.advanceCursor).nmask = s.nmask := rfl
@[simp] theorem State.advanceCursor_excl (s : State) : (s.advanceCursor).excl = s.excl := rfl
@[simp] theorem State.advanceCursor_rto (s : State) : (s.advanceCursor).rto = s.rto := rfl
@[simp] theorem State.advanceCursor_lkt (s : State) : (s.advanceCursor).lkt = s.lkt := rfl
@[simp] theorem State.advanceCursor_tpat (s : State) : (s.advanceCursor).tpat = s.tpat := rfl
@[simp] theorem State.advanceCursor_insp (s : State) : (s.advanceCursor).insp = s.insp := rfl
@[simp] theorem State.advanceCursor_capture (s : State) : (s.advanceCursor).capture = s.capture := rfl
@[simp] theorem State.advanceCursor_work (s : State) : (s.advanceCursor).work = s.work := rfl
@[simp] theorem State.advanceCursor_draws (s : State) : (s.advanceCursor).draws = s.draws := rfl
@[simp] theorem State.advanceCursor_pending (s : State) : (s.advanceCursor).pending = s.pending := rfl

@[simp] theorem State.watchEvent_now (s : State) (p : Port) (line : LineNo) (c : WatchClass) (o : WatchOutcome) : (s.watchEvent p line c o).now = s.now := rfl
@[simp] theorem State.watchEvent_init (s : State) (p : Port) (line : LineNo) (c : WatchClass) (o : WatchOutcome) : (s.watchEvent p line c o).init = s.init := rfl
@[simp] theorem State.watchEvent_sma (s : State) (p : Port) (line : LineNo) (c : WatchClass) (o : WatchOutcome) : (s.watchEvent p line c o).sma = s.sma := rfl
@[simp] theorem State.watchEvent_dir (s : State) (p : Port) (line : LineNo) (c : WatchClass) (o : WatchOutcome) : (s.watchEvent p line c o).dir = s.dir := rfl
@[simp] theorem State.watchEvent_txns (s : State) (p : Port) (line : LineNo) (c : WatchClass) (o : WatchOutcome) : (s.watchEvent p line c o).txns = s.txns := rfl
@[simp] theorem State.watchEvent_seqs (s : State) (p : Port) (line : LineNo) (c : WatchClass) (o : WatchOutcome) : (s.watchEvent p line c o).seqs = s.seqs := rfl
@[simp] theorem State.watchEvent_lastAdmitted (s : State) (p : Port) (line : LineNo) (c : WatchClass) (o : WatchOutcome) : (s.watchEvent p line c o).lastAdmitted = s.lastAdmitted := rfl
@[simp] theorem State.watchEvent_ports (s : State) (p : Port) (line : LineNo) (c : WatchClass) (o : WatchOutcome) : (s.watchEvent p line c o).ports = s.ports := rfl
@[simp] theorem State.watchEvent_sweep (s : State) (p : Port) (line : LineNo) (c : WatchClass) (o : WatchOutcome) : (s.watchEvent p line c o).sweep = s.sweep := rfl
@[simp] theorem State.watchEvent_prot0 (s : State) (p : Port) (line : LineNo) (c : WatchClass) (o : WatchOutcome) : (s.watchEvent p line c o).prot0 = s.prot0 := rfl
@[simp] theorem State.watchEvent_prot1 (s : State) (p : Port) (line : LineNo) (c : WatchClass) (o : WatchOutcome) : (s.watchEvent p line c o).prot1 = s.prot1 := rfl
@[simp] theorem State.watchEvent_nmask (s : State) (p : Port) (line : LineNo) (c : WatchClass) (o : WatchOutcome) : (s.watchEvent p line c o).nmask = s.nmask := rfl
@[simp] theorem State.watchEvent_excl (s : State) (p : Port) (line : LineNo) (c : WatchClass) (o : WatchOutcome) : (s.watchEvent p line c o).excl = s.excl := rfl
@[simp] theorem State.watchEvent_rto (s : State) (p : Port) (line : LineNo) (c : WatchClass) (o : WatchOutcome) : (s.watchEvent p line c o).rto = s.rto := rfl
@[simp] theorem State.watchEvent_lkt (s : State) (p : Port) (line : LineNo) (c : WatchClass) (o : WatchOutcome) : (s.watchEvent p line c o).lkt = s.lkt := rfl
@[simp] theorem State.watchEvent_tpat (s : State) (p : Port) (line : LineNo) (c : WatchClass) (o : WatchOutcome) : (s.watchEvent p line c o).tpat = s.tpat := rfl
@[simp] theorem State.watchEvent_insp (s : State) (p : Port) (line : LineNo) (c : WatchClass) (o : WatchOutcome) : (s.watchEvent p line c o).insp = s.insp := rfl
@[simp] theorem State.watchEvent_work (s : State) (p : Port) (line : LineNo) (c : WatchClass) (o : WatchOutcome) : (s.watchEvent p line c o).work = s.work := rfl
@[simp] theorem State.watchEvent_draws (s : State) (p : Port) (line : LineNo) (c : WatchClass) (o : WatchOutcome) : (s.watchEvent p line c o).draws = s.draws := rfl
@[simp] theorem State.watchEvent_pending (s : State) (p : Port) (line : LineNo) (c : WatchClass) (o : WatchOutcome) : (s.watchEvent p line c o).pending = s.pending := rfl

@[simp] theorem State.poison_now (s : State) (line : LineNo) : (s.poison line).now = s.now := rfl
@[simp] theorem State.poison_init (s : State) (line : LineNo) : (s.poison line).init = s.init := rfl
@[simp] theorem State.poison_dir (s : State) (line : LineNo) : (s.poison line).dir = s.dir := rfl
@[simp] theorem State.poison_txns (s : State) (line : LineNo) : (s.poison line).txns = s.txns := rfl
@[simp] theorem State.poison_seqs (s : State) (line : LineNo) : (s.poison line).seqs = s.seqs := rfl
@[simp] theorem State.poison_lastAdmitted (s : State) (line : LineNo) : (s.poison line).lastAdmitted = s.lastAdmitted := rfl
@[simp] theorem State.poison_ports (s : State) (line : LineNo) : (s.poison line).ports = s.ports := rfl
@[simp] theorem State.poison_sweep (s : State) (line : LineNo) : (s.poison line).sweep = s.sweep := rfl
@[simp] theorem State.poison_prot0 (s : State) (line : LineNo) : (s.poison line).prot0 = s.prot0 := rfl
@[simp] theorem State.poison_prot1 (s : State) (line : LineNo) : (s.poison line).prot1 = s.prot1 := rfl
@[simp] theorem State.poison_watch (s : State) (line : LineNo) : (s.poison line).watch = s.watch := rfl
@[simp] theorem State.poison_nmask (s : State) (line : LineNo) : (s.poison line).nmask = s.nmask := rfl
@[simp] theorem State.poison_excl (s : State) (line : LineNo) : (s.poison line).excl = s.excl := rfl
@[simp] theorem State.poison_rto (s : State) (line : LineNo) : (s.poison line).rto = s.rto := rfl
@[simp] theorem State.poison_lkt (s : State) (line : LineNo) : (s.poison line).lkt = s.lkt := rfl
@[simp] theorem State.poison_tpat (s : State) (line : LineNo) : (s.poison line).tpat = s.tpat := rfl
@[simp] theorem State.poison_insp (s : State) (line : LineNo) : (s.poison line).insp = s.insp := rfl
@[simp] theorem State.poison_work (s : State) (line : LineNo) : (s.poison line).work = s.work := rfl
@[simp] theorem State.poison_draws (s : State) (line : LineNo) : (s.poison line).draws = s.draws := rfl
@[simp] theorem State.poison_pending (s : State) (line : LineNo) : (s.poison line).pending = s.pending := rfl

@[simp] theorem State.lineWrite_now (s : State) (line : LineNo) (d : LineData) : (s.lineWrite line d).now = s.now := rfl
@[simp] theorem State.lineWrite_init (s : State) (line : LineNo) (d : LineData) : (s.lineWrite line d).init = s.init := rfl
@[simp] theorem State.lineWrite_dir (s : State) (line : LineNo) (d : LineData) : (s.lineWrite line d).dir = s.dir := rfl
@[simp] theorem State.lineWrite_txns (s : State) (line : LineNo) (d : LineData) : (s.lineWrite line d).txns = s.txns := rfl
@[simp] theorem State.lineWrite_seqs (s : State) (line : LineNo) (d : LineData) : (s.lineWrite line d).seqs = s.seqs := rfl
@[simp] theorem State.lineWrite_lastAdmitted (s : State) (line : LineNo) (d : LineData) : (s.lineWrite line d).lastAdmitted = s.lastAdmitted := rfl
@[simp] theorem State.lineWrite_ports (s : State) (line : LineNo) (d : LineData) : (s.lineWrite line d).ports = s.ports := rfl
@[simp] theorem State.lineWrite_sweep (s : State) (line : LineNo) (d : LineData) : (s.lineWrite line d).sweep = s.sweep := rfl
@[simp] theorem State.lineWrite_prot0 (s : State) (line : LineNo) (d : LineData) : (s.lineWrite line d).prot0 = s.prot0 := rfl
@[simp] theorem State.lineWrite_prot1 (s : State) (line : LineNo) (d : LineData) : (s.lineWrite line d).prot1 = s.prot1 := rfl
@[simp] theorem State.lineWrite_watch (s : State) (line : LineNo) (d : LineData) : (s.lineWrite line d).watch = s.watch := rfl
@[simp] theorem State.lineWrite_nstat (s : State) (line : LineNo) (d : LineData) : (s.lineWrite line d).nstat = s.nstat := rfl
@[simp] theorem State.lineWrite_nmask (s : State) (line : LineNo) (d : LineData) : (s.lineWrite line d).nmask = s.nmask := rfl
@[simp] theorem State.lineWrite_excl (s : State) (line : LineNo) (d : LineData) : (s.lineWrite line d).excl = s.excl := rfl
@[simp] theorem State.lineWrite_rto (s : State) (line : LineNo) (d : LineData) : (s.lineWrite line d).rto = s.rto := rfl
@[simp] theorem State.lineWrite_lkt (s : State) (line : LineNo) (d : LineData) : (s.lineWrite line d).lkt = s.lkt := rfl
@[simp] theorem State.lineWrite_tpat (s : State) (line : LineNo) (d : LineData) : (s.lineWrite line d).tpat = s.tpat := rfl
@[simp] theorem State.lineWrite_insp (s : State) (line : LineNo) (d : LineData) : (s.lineWrite line d).insp = s.insp := rfl
@[simp] theorem State.lineWrite_capture (s : State) (line : LineNo) (d : LineData) : (s.lineWrite line d).capture = s.capture := rfl
@[simp] theorem State.lineWrite_work (s : State) (line : LineNo) (d : LineData) : (s.lineWrite line d).work = s.work := rfl
@[simp] theorem State.lineWrite_draws (s : State) (line : LineNo) (d : LineData) : (s.lineWrite line d).draws = s.draws := rfl
@[simp] theorem State.lineWrite_pending (s : State) (line : LineNo) (d : LineData) : (s.lineWrite line d).pending = s.pending := rfl

@[simp] theorem State.storeHalf_now (s : State) (b : Bool) : (s.storeHalf b).now = s.now := rfl
@[simp] theorem State.storeHalf_init (s : State) (b : Bool) : (s.storeHalf b).init = s.init := rfl
@[simp] theorem State.storeHalf_sma (s : State) (b : Bool) : (s.storeHalf b).sma = s.sma := rfl
@[simp] theorem State.storeHalf_dir (s : State) (b : Bool) : (s.storeHalf b).dir = s.dir := rfl
@[simp] theorem State.storeHalf_txns (s : State) (b : Bool) : (s.storeHalf b).txns = s.txns := rfl
@[simp] theorem State.storeHalf_seqs (s : State) (b : Bool) : (s.storeHalf b).seqs = s.seqs := rfl
@[simp] theorem State.storeHalf_lastAdmitted (s : State) (b : Bool) : (s.storeHalf b).lastAdmitted = s.lastAdmitted := rfl
@[simp] theorem State.storeHalf_ports (s : State) (b : Bool) : (s.storeHalf b).ports = s.ports := rfl
@[simp] theorem State.storeHalf_sweep (s : State) (b : Bool) : (s.storeHalf b).sweep = s.sweep := rfl
@[simp] theorem State.storeHalf_prot0 (s : State) (b : Bool) : (s.storeHalf b).prot0 = s.prot0 := rfl
@[simp] theorem State.storeHalf_prot1 (s : State) (b : Bool) : (s.storeHalf b).prot1 = s.prot1 := rfl
@[simp] theorem State.storeHalf_watch (s : State) (b : Bool) : (s.storeHalf b).watch = s.watch := rfl
@[simp] theorem State.storeHalf_nstat (s : State) (b : Bool) : (s.storeHalf b).nstat = s.nstat := rfl
@[simp] theorem State.storeHalf_nmask (s : State) (b : Bool) : (s.storeHalf b).nmask = s.nmask := rfl
@[simp] theorem State.storeHalf_excl (s : State) (b : Bool) : (s.storeHalf b).excl = s.excl := rfl
@[simp] theorem State.storeHalf_rto (s : State) (b : Bool) : (s.storeHalf b).rto = s.rto := rfl
@[simp] theorem State.storeHalf_lkt (s : State) (b : Bool) : (s.storeHalf b).lkt = s.lkt := rfl
@[simp] theorem State.storeHalf_tpat (s : State) (b : Bool) : (s.storeHalf b).tpat = s.tpat := rfl
@[simp] theorem State.storeHalf_capture (s : State) (b : Bool) : (s.storeHalf b).capture = s.capture := rfl
@[simp] theorem State.storeHalf_work (s : State) (b : Bool) : (s.storeHalf b).work = s.work := rfl
@[simp] theorem State.storeHalf_draws (s : State) (b : Bool) : (s.storeHalf b).draws = s.draws := rfl
@[simp] theorem State.storeHalf_pending (s : State) (b : Bool) : (s.storeHalf b).pending = s.pending := rfl

@[simp] theorem State.endInspect_now (s : State) (c : InspCode) (st : InspStatus) (r : BitVec 128) : (s.endInspect c st r).now = s.now := rfl
@[simp] theorem State.endInspect_init (s : State) (c : InspCode) (st : InspStatus) (r : BitVec 128) : (s.endInspect c st r).init = s.init := rfl
@[simp] theorem State.endInspect_sma (s : State) (c : InspCode) (st : InspStatus) (r : BitVec 128) : (s.endInspect c st r).sma = s.sma := rfl
@[simp] theorem State.endInspect_dir (s : State) (c : InspCode) (st : InspStatus) (r : BitVec 128) : (s.endInspect c st r).dir = s.dir := rfl
@[simp] theorem State.endInspect_txns (s : State) (c : InspCode) (st : InspStatus) (r : BitVec 128) : (s.endInspect c st r).txns = s.txns := rfl
@[simp] theorem State.endInspect_seqs (s : State) (c : InspCode) (st : InspStatus) (r : BitVec 128) : (s.endInspect c st r).seqs = s.seqs := rfl
@[simp] theorem State.endInspect_lastAdmitted (s : State) (c : InspCode) (st : InspStatus) (r : BitVec 128) : (s.endInspect c st r).lastAdmitted = s.lastAdmitted := rfl
@[simp] theorem State.endInspect_ports (s : State) (c : InspCode) (st : InspStatus) (r : BitVec 128) : (s.endInspect c st r).ports = s.ports := rfl
@[simp] theorem State.endInspect_sweep (s : State) (c : InspCode) (st : InspStatus) (r : BitVec 128) : (s.endInspect c st r).sweep = s.sweep := rfl
@[simp] theorem State.endInspect_prot0 (s : State) (c : InspCode) (st : InspStatus) (r : BitVec 128) : (s.endInspect c st r).prot0 = s.prot0 := rfl
@[simp] theorem State.endInspect_prot1 (s : State) (c : InspCode) (st : InspStatus) (r : BitVec 128) : (s.endInspect c st r).prot1 = s.prot1 := rfl
@[simp] theorem State.endInspect_watch (s : State) (c : InspCode) (st : InspStatus) (r : BitVec 128) : (s.endInspect c st r).watch = s.watch := rfl
@[simp] theorem State.endInspect_nstat (s : State) (c : InspCode) (st : InspStatus) (r : BitVec 128) : (s.endInspect c st r).nstat = s.nstat := rfl
@[simp] theorem State.endInspect_nmask (s : State) (c : InspCode) (st : InspStatus) (r : BitVec 128) : (s.endInspect c st r).nmask = s.nmask := rfl
@[simp] theorem State.endInspect_excl (s : State) (c : InspCode) (st : InspStatus) (r : BitVec 128) : (s.endInspect c st r).excl = s.excl := rfl
@[simp] theorem State.endInspect_rto (s : State) (c : InspCode) (st : InspStatus) (r : BitVec 128) : (s.endInspect c st r).rto = s.rto := rfl
@[simp] theorem State.endInspect_lkt (s : State) (c : InspCode) (st : InspStatus) (r : BitVec 128) : (s.endInspect c st r).lkt = s.lkt := rfl
@[simp] theorem State.endInspect_tpat (s : State) (c : InspCode) (st : InspStatus) (r : BitVec 128) : (s.endInspect c st r).tpat = s.tpat := rfl
@[simp] theorem State.endInspect_capture (s : State) (c : InspCode) (st : InspStatus) (r : BitVec 128) : (s.endInspect c st r).capture = s.capture := rfl
@[simp] theorem State.endInspect_work (s : State) (c : InspCode) (st : InspStatus) (r : BitVec 128) : (s.endInspect c st r).work = s.work := rfl
@[simp] theorem State.endInspect_draws (s : State) (c : InspCode) (st : InspStatus) (r : BitVec 128) : (s.endInspect c st r).draws = s.draws := rfl
@[simp] theorem State.endInspect_pending (s : State) (c : InspCode) (st : InspStatus) (r : BitVec 128) : (s.endInspect c st r).pending = s.pending := rfl

/-! ## What the updates change -/

@[simp] theorem State.updPort_ports (s : State) (p : Port) (f : PortState → PortState) :
    (s.updPort p f).ports = s.ports.set p (f (s.port p)) := rfl

@[simp] theorem State.putTxn_txns (s : State) (n : Nat) (t : Txn) : (s.putTxn n t).txns = Store.put s.txns n t := rfl

@[simp] theorem State.putSet_dir (s : State) (set : Nat) (es : List Entry) :
    (s.putSet set es).dir = Store.write ([] : List Entry) s.dir set es := rfl

@[simp] theorem State.latch_nstat (s : State) (n : Notice) : (s.latch n).nstat = s.nstat ||| n.bit := rfl

@[simp] theorem State.report_work (s : State) (set : Nat) :
    (s.report set).work = ⟨s.work.cursorDue || s.sweep.cursor / 4 == set, true⟩ := rfl

@[simp] theorem State.reportSlot_work (s : State) : s.reportSlot.work = ⟨true, true⟩ := rfl

/-! ## Ports -/

@[simp] theorem PerPort.get_set_self {α : Type} (v : PerPort α) (p : Port) (a : α) : (v.set p a).get p = a := by
  cases p <;> rfl

@[simp] theorem PerPort.set_get_self {α : Type} (v : PerPort α) (p : Port) : v.set p (v.get p) = v := by
  cases p <;> rfl

@[simp] theorem PerPort.set_set {α : Type} (v : PerPort α) (p : Port) (a b : α) : (v.set p a).set p b = v.set p b := by
  cases p <;> rfl

theorem PerPort.get_set_ne {α : Type} (v : PerPort α) {p q : Port} (a : α) (h : q ≠ p) :
    (v.set p a).get q = v.get q := by
  cases p <;> cases q <;> first | rfl | exact absurd rfl h

theorem PerPort.get_set {α : Type} (v : PerPort α) (p q : Port) (a : α) :
    (v.set p a).get q = if q = p then a else v.get q := by
  cases p <;> cases q <;> rfl

@[simp] theorem PerPort.get_const {α : Type} (a : α) (p : Port) : (PerPort.const a).get p = a := by
  cases p <;> rfl

@[simp] theorem PerPort.get_map {α β : Type} (v : PerPort α) (f : α → β) (p : Port) : (v.map f).get p = f (v.get p) := by
  cases p <;> rfl

/-- Two families of ports with the same value for every port are the same. -/
theorem PerPort.ext_get {α : Type} {v w : PerPort α} (h : ∀ p, v.get p = w.get p) : v = w := by
  have h0 := h .P0
  have h1 := h .P1
  have h2 := h .P2
  have h3 := h .P3
  cases v
  cases w
  simp_all [PerPort.get]

@[simp] theorem State.port_updPort_self (s : State) (p : Port) (f : PortState → PortState) :
    (s.updPort p f).port p = f (s.port p) := PerPort.get_set_self _ _ _

theorem State.port_updPort_ne (s : State) {p q : Port} (f : PortState → PortState) (h : q ≠ p) :
    (s.updPort p f).port q = s.port q := PerPort.get_set_ne _ _ h

theorem State.port_updPort (s : State) (p q : Port) (f : PortState → PortState) :
    (s.updPort p f).port q = if q = p then f (s.port q) else s.port q := by
  by_cases h : q = p
  · subst h
    simp
  · simp [h, State.port_updPort_ne s f h]

/-- Two changes of one port are one. -/
@[simp] theorem State.updPort_updPort (s : State) (p : Port) (f g : PortState → PortState) :
    (s.updPort p f).updPort p g = s.updPort p fun ps => g (f ps) := by
  simp [State.updPort, State.port]

/-- A change that leaves the port as it is changes nothing. -/
theorem State.updPort_id (s : State) (p : Port) (f : PortState → PortState) (h : f (s.port p) = s.port p) :
    s.updPort p f = s := by
  have e : s.ports.set p (f (s.port p)) = s.ports := by rw [h]; exact PerPort.set_get_self _ _
  show { s with ports := s.ports.set p (f (s.port p)) } = s
  rw [e]

/-- Two changes that agree on the port as it stands are the same. -/
theorem State.updPort_congr (s : State) (p : Port) {f g : PortState → PortState} (h : f (s.port p) = g (s.port p)) :
    s.updPort p f = s.updPort p g := by
  simp [State.updPort, h]

@[simp] theorem State.port_latch (s : State) (n : Notice) (q : Port) : (s.latch n).port q = s.port q := rfl

@[simp] theorem State.port_putTxn (s : State) (n : Nat) (t : Txn) (q : Port) : (s.putTxn n t).port q = s.port q := rfl

@[simp] theorem State.port_putSet (s : State) (set : Nat) (es : List Entry) (q : Port) :
    (s.putSet set es).port q = s.port q := rfl

@[simp] theorem State.port_report (s : State) (set : Nat) (q : Port) : (s.report set).port q = s.port q := rfl

@[simp] theorem State.port_reportSlot (s : State) (q : Port) : s.reportSlot.port q = s.port q := rfl

@[simp] theorem State.port_advanceSeq (s : State) (n : Nat) (q : Port) : (s.advanceSeq n).port q = s.port q := rfl

theorem State.port_latchPort (s : State) (p q : Port) (l : PortLatch) :
    (s.latchPort p l).port q = if q = p then { s.port q with latches := (s.port q).latches ||| l.bit } else s.port q :=
  State.port_updPort s p q fun ps => { ps with latches := ps.latches ||| l.bit }

end Sys2Proof.Machine
end

