-- ==== Sys2Proof/Laws/Store.lean ====
section
/-! SUPPORT. Sparse stores: what a write changes, and that it keeps the canonical form. -/

namespace Sys2Proof.Machine

variable {α : Type}

theorem Store.mem_put {m : Store α} {k : Nat} {v : α} {e : Nat × α} (h : e ∈ m.put k v) : e = (k, v) ∨ e ∈ m := by
  induction m with
  | nil => simpa [Store.put] using h
  | cons x rest ih =>
    obtain ⟨j, w⟩ := x
    unfold Store.put at h
    split at h
    · rcases List.mem_cons.mp h with h | h
      · exact .inl h
      · exact .inr h
    · split at h
      · rcases List.mem_cons.mp h with h | h
        · exact .inl h
        · exact .inr (List.mem_cons_of_mem _ h)
      · rcases List.mem_cons.mp h with h | h
        · exact .inr (h ▸ List.mem_cons_self)
        · rcases ih h with h | h
          · exact .inl h
          · exact .inr (List.mem_cons_of_mem _ h)

theorem Store.mem_erase {m : Store α} {k : Nat} {e : Nat × α} : e ∈ m.erase k ↔ e ∈ m ∧ e.1 ≠ k := by
  simp [Store.erase, List.mem_filter, bne_iff_ne]

theorem Store.rising_put {m : Store α} (h : m.Rising) (k : Nat) (v : α) : (m.put k v).Rising := by
  induction m with
  | nil => simp [Store.put, Store.Rising]
  | cons x rest ih =>
    obtain ⟨j, w⟩ := x
    have hc := List.pairwise_cons.mp h
    unfold Store.put
    split
    · rename_i hk
      refine List.pairwise_cons.mpr ⟨?_, h⟩
      intro e he
      rcases List.mem_cons.mp he with he | he
      · subst he
        exact hk
      · exact lt_trans hk (hc.1 e he)
    · rename_i hk
      split
      · rename_i hkj
        refine List.pairwise_cons.mpr ⟨?_, hc.2⟩
        intro e he
        rw [hkj]
        exact hc.1 e he
      · rename_i hkj
        refine List.pairwise_cons.mpr ⟨?_, ih hc.2⟩
        intro e he
        rcases Store.mem_put he with he | he
        · subst he
          show j < k
          omega
        · exact hc.1 e he

theorem Store.rising_erase {m : Store α} (h : m.Rising) (k : Nat) : (m.erase k).Rising := h.filter _

@[simp] theorem Store.find_put_self (m : Store α) (k : Nat) (v : α) : (m.put k v).find k = some v := by
  induction m with
  | nil => simp [Store.put, Store.find]
  | cons x rest ih =>
    obtain ⟨j, w⟩ := x
    unfold Store.put
    split
    · simp [Store.find]
    · split
      · simp [Store.find]
      · rename_i _ hkj
        simp [Store.find, ih, Ne.symm hkj]

theorem Store.find_put_ne (m : Store α) {j k : Nat} (v : α) (h : j ≠ k) : (m.put k v).find j = m.find j := by
  induction m with
  | nil => simp [Store.put, Store.find, Ne.symm h]
  | cons x rest ih =>
    obtain ⟨i, w⟩ := x
    unfold Store.put
    split
    · simp [Store.find, Ne.symm h]
    · split
      · rename_i _ hki
        subst hki
        simp [Store.find, Ne.symm h]
      · simp [Store.find, ih]

@[simp] theorem Store.find_erase_self (m : Store α) (k : Nat) : (m.erase k).find k = none := by
  induction m with
  | nil => rfl
  | cons x rest ih =>
    obtain ⟨i, w⟩ := x
    by_cases h : i = k
    · subst h
      simpa [Store.erase, Store.find] using ih
    · have e : Store.erase ((i, w) :: rest) k = (i, w) :: Store.erase rest k := by simp [Store.erase, h]
      rw [e]
      simp [Store.find, h, ih]

theorem Store.find_erase_ne (m : Store α) {j k : Nat} (h : j ≠ k) : (m.erase k).find j = m.find j := by
  induction m with
  | nil => rfl
  | cons x rest ih =>
    obtain ⟨i, w⟩ := x
    by_cases hi : i = k
    · subst hi
      have e : Store.erase ((i, w) :: rest) i = Store.erase rest i := by simp [Store.erase]
      rw [e, ih]
      simp [Store.find, Ne.symm h]
    · have e : Store.erase ((i, w) :: rest) k = (i, w) :: Store.erase rest k := by simp [Store.erase, hi]
      rw [e]
      simp [Store.find, ih]

variable [DecidableEq α]

/-- A number reads as what was last written to it. -/
@[simp] theorem Store.read_write_self (d : α) (m : Store α) (k : Nat) (v : α) : Store.read d (Store.write d m k v) k = v := by
  unfold Store.write Store.read
  split
  · rename_i h
    simp [h]
  · simp

/-- A write leaves every other number as it was. -/
theorem Store.read_write_ne (d : α) (m : Store α) {j k : Nat} (v : α) (h : j ≠ k) :
    Store.read d (Store.write d m k v) j = Store.read d m j := by
  unfold Store.write Store.read
  split
  · rw [Store.find_erase_ne m h]
  · rw [Store.find_put_ne m v h]

theorem Store.read_write (d : α) (m : Store α) (j k : Nat) (v : α) :
    Store.read d (Store.write d m k v) j = if j = k then v else Store.read d m j := by
  by_cases h : j = k
  · subst h
    simp
  · simp [h, Store.read_write_ne d m v h]

theorem Store.rising_write {m : Store α} (h : m.Rising) (d : α) (k : Nat) (v : α) : (Store.write d m k v).Rising := by
  unfold Store.write
  split
  · exact Store.rising_erase h k
  · exact Store.rising_put h k v

theorem Store.mem_write {d : α} {m : Store α} {k : Nat} {v : α} {e : Nat × α} (h : e ∈ Store.write d m k v) :
    (e = (k, v) ∧ v ≠ d) ∨ e ∈ m := by
  unfold Store.write at h
  split at h
  · exact .inr (Store.mem_erase.mp h).1
  · rename_i hv
    rcases Store.mem_put h with h | h
    · exact .inl ⟨h, hv⟩
    · exact .inr h

/-- A write within the bound keeps the canonical form. -/
theorem Store.canonical_write {d : α} {bound : Nat} {m : Store α} (h : Store.Canonical d bound m) {k : Nat}
    (hk : k < bound) (v : α) : Store.Canonical d bound (Store.write d m k v) := by
  refine ⟨Store.rising_write h.1 d k v, ?_⟩
  intro e he
  rcases Store.mem_write he with ⟨he, hv⟩ | he
  · subst he
    exact ⟨hk, hv⟩
  · exact h.2 e he

theorem Store.canonical_nil (d : α) (bound : Nat) : Store.Canonical d bound ([] : Store α) :=
  ⟨List.Pairwise.nil, fun _ h => absurd h List.not_mem_nil⟩

omit [DecidableEq α] in
/-- In a rising store a listed number is found as it is listed. -/
theorem Store.find_of_mem {m : Store α} (h : m.Rising) {e : Nat × α} (he : e ∈ m) : m.find e.1 = some e.2 := by
  induction m with
  | nil => exact absurd he List.not_mem_nil
  | cons x rest ih =>
    have hc := List.pairwise_cons.mp h
    rcases List.mem_cons.mp he with rfl | hr
    · simp [Store.find]
    · have hlt := hc.1 e hr
      have hne : ¬ x.1 = e.1 := by omega
      obtain ⟨j, w⟩ := x
      simp only [Store.find]
      rw [if_neg hne]
      exact ih hc.2 hr

omit [DecidableEq α] in
/-- What is found is listed. -/
theorem Store.mem_of_find {m : Store α} {k : Nat} {v : α} (h : m.find k = some v) : (k, v) ∈ m := by
  induction m with
  | nil => simp [Store.find] at h
  | cons x rest ih =>
    obtain ⟨j, w⟩ := x
    unfold Store.find at h
    split at h
    · rename_i hj
      simp only [Option.some.injEq] at h
      subst hj
      subst h
      exact List.mem_cons_self
    · exact List.mem_cons_of_mem _ (ih h)

/-- Two canonical stores that read alike are the same list. -/
theorem Store.canonical_ext {d : α} {bound : Nat} {m n : Store α} (hm : Store.Canonical d bound m)
    (hn : Store.Canonical d bound n) (h : ∀ k, Store.read d m k = Store.read d n k) : m = n := by
  have aux : ∀ {a b : Store α}, Store.Canonical d bound a → Store.Canonical d bound b →
      (∀ k, Store.read d a k = Store.read d b k) → ∀ e ∈ a, e ∈ b := by
    intro a b ha hb hab e he
    have hf := Store.find_of_mem ha.1 he
    have hr : Store.read d b e.1 = e.2 := by
      rw [← hab, Store.read, hf]
      rfl
    cases hbf : Store.find b e.1 with
    | none =>
      rw [Store.read, hbf] at hr
      exact absurd hr.symm (ha.2 e he).2
    | some v =>
      rw [Store.read, hbf] at hr
      simp only [Option.getD_some] at hr
      have hmem := Store.mem_of_find hbf
      rw [hr] at hmem
      exact hmem
  have irr : ∀ a b : Nat × α, a.1 < b.1 → ¬ b.1 < a.1 := fun a b h1 h2 => by omega
  have hp : m.Perm n := by
    have nd : ∀ {a : Store α}, a.Rising → a.Nodup := by
      intro a ha
      refine List.Pairwise.imp ?_ ha
      intro x y hxy heq
      subst heq
      omega
    exact (List.perm_ext_iff_of_nodup (nd hm.1) (nd hn.1)).mpr
      fun e => ⟨aux hm hn h e, aux hn hm (fun k => (h k).symm) e⟩
  exact List.Perm.eq_of_pairwise (fun a b _ _ h1 h2 => absurd h2 (irr a b h1)) hm.1 hn.1 hp

end Sys2Proof.Machine
end

