-- ==== Sys2Proof/Laws/Array.lean ====
section
/-! SUPPORT. The memory and the array: what each access changes, what it reads, and that it keeps the canonical form. -/

namespace Sys2Proof.Machine

/-! ## Bytes and words -/

@[simp] theorem Memory.readByte_writeByte_self (m : List Host.Cell) (a : Nat) (b : Byte) :
    Memory.readByte (Memory.writeByte m a b) a = b := Store.read_write_self _ _ _ _

theorem Memory.readByte_writeByte (m : List Host.Cell) (a c : Nat) (b : Byte) :
    Memory.readByte (Memory.writeByte m a b) c = if c = a then b else Memory.readByte m c := Store.read_write _ _ _ _ _

theorem Memory.wf_writeByte {m : List Host.Cell} (h : Memory.wf m) {a : Nat} (ha : a < Memory.size) (b : Byte) :
    Memory.wf (Memory.writeByte m a b) := Store.canonical_write h ha b

theorem Memory.wf_writeWord {m : List Host.Cell} (h : Memory.wf m) {a : Nat} (ha : a + 3 < Memory.size) (w : Word) :
    Memory.wf (Memory.writeWord m a w) := by
  unfold Memory.writeWord
  exact Memory.wf_writeByte (Memory.wf_writeByte (Memory.wf_writeByte (Memory.wf_writeByte h (by omega) _) (by omega) _)
    (by omega) _) ha _

/-- A word write leaves every byte outside its four as it was. -/
theorem Memory.readByte_writeWord_outside (m : List Host.Cell) (a c : Nat) (w : Word) (h : c < a ∨ a + 4 ≤ c) :
    Memory.readByte (Memory.writeWord m a w) c = Memory.readByte m c := by
  unfold Memory.writeWord
  simp only [Memory.readByte_writeByte]
  rw [if_neg (by omega), if_neg (by omega), if_neg (by omega), if_neg (by omega)]

/-- A word reads as it was last written. -/
@[simp] theorem Memory.readWord_writeWord_self (m : List Host.Cell) (a : Nat) (w : Word) :
    Memory.readWord (Memory.writeWord m a w) a = w := by
  unfold Memory.readWord Memory.writeWord
  simp only [Memory.readByte_writeByte]
  rw [if_neg (show ¬ a + 2 = a + 3 by omega), if_neg (show ¬ a + 1 = a + 3 by omega),
    if_neg (show ¬ a + 1 = a + 2 by omega), if_neg (show ¬ a = a + 3 by omega), if_neg (show ¬ a = a + 2 by omega),
    if_neg (show ¬ a = a + 1 by omega)]
  simp only [if_true]
  apply BitVec.eq_of_getLsbD_eq
  intro i hi
  simp only [BitVec.getLsbD_append, BitVec.getLsbD_extractLsb']
  by_cases h0 : i < 8
  · simp [h0]
  · by_cases h1 : i < 16
    · simp [h0, show i - 8 < 8 by omega, show 8 + (i - 8) = i by omega]
    · by_cases h2 : i < 24
      · simp [h0, show ¬ i - 8 < 8 by omega, show i - 8 - 8 < 8 by omega, show 16 + (i - 8 - 8) = i by omega]
      · simp [h0, show ¬ i - 8 < 8 by omega, show ¬ i - 8 - 8 < 8 by omega, show i - 8 - 8 - 8 < 8 by omega,
          show 24 + (i - 8 - 8 - 8) = i by omega]

/-- A word write leaves every word that does not meet it as it was. -/
theorem Memory.readWord_writeWord_apart (m : List Host.Cell) (a c : Nat) (w : Word) (h : c + 4 ≤ a ∨ a + 4 ≤ c) :
    Memory.readWord (Memory.writeWord m a w) c = Memory.readWord m c := by
  unfold Memory.readWord
  rw [Memory.readByte_writeWord_outside _ _ _ _ (by omega), Memory.readByte_writeWord_outside _ _ _ _ (by omega),
    Memory.readByte_writeWord_outside _ _ _ _ (by omega), Memory.readByte_writeWord_outside _ _ _ _ (by omega)]

/-! ## Units and lines -/

@[simp] theorem Sma.writeUnit_conds (a : Sma) (line : LineNo) (u : Nat) (lo hi : Word) :
    (a.writeUnit line u lo hi).conds = a.conds := rfl

@[simp] theorem Sma.writeUnit_cecnt (a : Sma) (line : LineNo) (u : Nat) (lo hi : Word) :
    (a.writeUnit line u lo hi).cecnt = a.cecnt := rfl

@[simp] theorem Sma.setCond_bytes (a : Sma) (line : LineNo) (c : Condition) : (a.setCond line c).bytes = a.bytes := rfl

@[simp] theorem Sma.setCond_errors (a : Sma) (line : LineNo) (c : Condition) : (a.setCond line c).errors = a.errors := rfl

@[simp] theorem Sma.setCond_cecnt (a : Sma) (line : LineNo) (c : Condition) : (a.setCond line c).cecnt = a.cecnt := rfl

@[simp] theorem Sma.cond_setCond_self (a : Sma) (line : LineNo) (c : Condition) : (a.setCond line c).cond line = c :=
  Store.read_write_self _ _ _ _

theorem Sma.cond_setCond_ne (a : Sma) {line l : LineNo} (c : Condition) (h : l ≠ line) :
    (a.setCond line c).cond l = a.cond l := by
  refine Store.read_write_ne _ _ _ ?_
  intro e
  exact h (BitVec.eq_of_toNat_eq e)

/-- A unit write leaves every byte outside its eight as it was. -/
theorem Sma.readByte_writeUnit_outside (a : Sma) (line : LineNo) (u : Nat) (lo hi : Word) (c : Nat)
    (h : c < wordAddress line (2 * u) ∨ wordAddress line (2 * u) + 8 ≤ c) :
    Memory.readByte (a.writeUnit line u lo hi).bytes c = Memory.readByte a.bytes c := by
  unfold Sma.writeUnit
  simp only [wordAddress] at h ⊢
  rw [Memory.readByte_writeWord_outside _ _ _ _ (by omega), Memory.readByte_writeWord_outside _ _ _ _ (by omega)]

/-- The words of a line after a unit write. -/
theorem Sma.word_writeUnit (a : Sma) (line : LineNo) (u : Nat) (lo hi : Word) (k : Nat) :
    (a.writeUnit line u lo hi).word line k = if k = 2 * u then lo else if k = 2 * u + 1 then hi else a.word line k := by
  unfold Sma.writeUnit Sma.word
  simp only
  by_cases h1 : k = 2 * u + 1
  · subst h1
    simp
  · rw [Memory.readWord_writeWord_apart _ _ _ _ (by simp only [wordAddress]; omega)]
    by_cases h0 : k = 2 * u
    · subst h0
      simp
    · rw [Memory.readWord_writeWord_apart _ _ _ _ (by simp only [wordAddress]; omega)]
      simp [h0, h1]

/-- A line write stores the eight words (R8). -/
theorem Sma.lineWords_writeLine (a : Sma) (line : LineNo) (d : LineData) :
    (a.writeLine line d).lineWords line = d.toList := by
  have hw : ∀ b : Sma, ∀ c k, (b.setCond line c).word line k = b.word line k := fun _ _ _ => rfl
  simp [Sma.writeLine, Sma.lineWords, LineData.toList, List.range, List.range.loop, hw, Sma.word_writeUnit]

/-- A line write leaves every byte outside its line as it was. -/
theorem Sma.readByte_writeLine_outside (a : Sma) (line : LineNo) (d : LineData) (c : Nat)
    (h : c < line.toNat * 32 ∨ line.toNat * 32 + 32 ≤ c) :
    Memory.readByte (a.writeLine line d).bytes c = Memory.readByte a.bytes c := by
  unfold Sma.writeLine
  simp only [Sma.setCond_bytes]
  rw [Sma.readByte_writeUnit_outside _ _ _ _ _ _ (by simp only [wordAddress]; omega),
    Sma.readByte_writeUnit_outside _ _ _ _ _ _ (by simp only [wordAddress]; omega),
    Sma.readByte_writeUnit_outside _ _ _ _ _ _ (by simp only [wordAddress]; omega),
    Sma.readByte_writeUnit_outside _ _ _ _ _ _ (by simp only [wordAddress]; omega)]

/-- A line write leaves the line GOOD (R8). -/
@[simp] theorem Sma.cond_writeLine_self (a : Sma) (line : LineNo) (d : LineData) : (a.writeLine line d).cond line = .good :=
  Sma.cond_setCond_self _ _ _

/-! ## The canonical form is kept -/

/-- The array's three stores are canonical. -/
structure Sma.Form (a : Sma) : Prop where
  bytes : Memory.wf a.bytes
  errors : Store.Canonical UnitError.none (4 * Config.lineCount) a.errors
  conds : Store.Canonical Condition.good Config.lineCount a.conds

theorem State.storageForm_iff (s : State) : s.StorageForm ↔ s.sma.Form :=
  ⟨fun h => ⟨h.bytes, h.errors, h.conds⟩, fun h => ⟨h.bytes, h.errors, h.conds⟩⟩

theorem Sma.form_setCond {a : Sma} (h : a.Form) (line : LineNo) (c : Condition) : (a.setCond line c).Form :=
  ⟨h.bytes, h.errors, Store.canonical_write h.conds (by have := line.isLt; simp only [Config.lineCount]; omega) c⟩

theorem Sma.form_writeUnit {a : Sma} (h : a.Form) (line : LineNo) {u : Nat} (hu : u < 4) (lo hi : Word) :
    (a.writeUnit line u lo hi).Form := by
  have hl := line.isLt
  refine ⟨?_, ?_, h.conds⟩
  · refine Memory.wf_writeWord (Memory.wf_writeWord h.bytes ?_ _) ?_ _ <;> simp only [wordAddress, Memory.size] <;> omega
  · have hk : unitNumber line u < 4 * Config.lineCount := by
      simp only [unitNumber, Config.lineCount]
      omega
    exact Store.canonical_write h.errors hk UnitError.none

theorem Sma.form_writeLine {a : Sma} (h : a.Form) (line : LineNo) (d : LineData) : (a.writeLine line d).Form := by
  unfold Sma.writeLine
  exact Sma.form_setCond (Sma.form_writeUnit (Sma.form_writeUnit (Sma.form_writeUnit (Sma.form_writeUnit h line (by omega) _ _)
    line (by omega) _ _) line (by omega) _ _) line (by omega) _ _) line _

theorem Sma.form_cleared (a : Sma) : a.cleared.Form :=
  ⟨Store.canonical_nil _ _, Store.canonical_nil _ _, Store.canonical_nil _ _⟩

theorem Sma.form_storeWord {a : Sma} (h : a.Form) (line : LineNo) {k : Nat} (hk : k < 8) (w : Word) :
    (a.storeWord line k w).Form := by
  unfold Sma.storeWord
  split <;> exact Sma.form_writeUnit h line (by omega) _ _

theorem State.form_poison {s : State} (h : s.sma.Form) (line : LineNo) : (s.poison line).sma.Form :=
  Sma.form_setCond h line .poisoned

theorem State.form_checkUnit {s : State} (h : s.sma.Form) (line : LineNo) {u : Nat} (hu : u < 4) :
    (s.checkUnit line u).sma.Form := by
  unfold State.checkUnit
  split
  · exact h
  · rename_i lo hi _
    have hw := Sma.form_writeUnit h line hu lo hi
    exact ⟨hw.bytes, hw.errors, hw.conds⟩
  · exact State.form_poison h line

theorem State.form_lineRead {s : State} (h : s.sma.Form) (line : LineNo) : (s.lineRead line).sma.Form := by
  unfold State.lineRead
  exact State.form_checkUnit (State.form_checkUnit (State.form_checkUnit (State.form_checkUnit h line (by omega)) line
    (by omega)) line (by omega)) line (by omega)

theorem State.form_lineWrite {s : State} (h : s.sma.Form) (line : LineNo) (d : LineData) : (s.lineWrite line d).sma.Form :=
  Sma.form_writeLine h line d

theorem State.form_wordRead {s : State} (h : s.sma.Form) (line : LineNo) {k : Nat} (hk : k < 8) :
    (s.wordRead line k).sma.Form := State.form_checkUnit h line (by omega)

theorem State.form_wordWrite {s : State} (h : s.sma.Form) (line : LineNo) {k : Nat} (hk : k < 8) (w : Word) :
    (s.wordWrite line k w).sma.Form := Sma.form_storeWord (State.form_wordRead h line hk) line hk w

theorem State.form_unpoison {s : State} (h : s.sma.Form) (line : LineNo) : (s.unpoison line).sma.Form :=
  Sma.form_setCond h line .good

theorem State.form_reset : State.reset.StorageForm :=
  ⟨Store.canonical_nil _ _, Store.canonical_nil _ _, Store.canonical_nil _ _⟩

/-! ## Checking (R3) -/

theorem checkOutcome_none (lo hi : Word) : checkOutcome lo hi UnitError.none = .clean := by
  have h : UnitError.weight UnitError.none = 0 := by decide
  simp [checkOutcome, h]

/-- A unit in which nothing is wrong is read without effect. -/
theorem State.checkUnit_clean (s : State) (line : LineNo) (u : Nat) (h : s.sma.unitError line u = UnitError.none) :
    s.checkUnit line u = s := by
  simp [State.checkUnit, Sma.unitOutcome, h, checkOutcome_none]

/-- In an array in which nothing is wrong, a line read changes nothing. -/
theorem State.lineRead_clean (s : State) (line : LineNo) (h : s.sma.errors = []) : s.lineRead line = s := by
  have hu : ∀ u, s.sma.unitError line u = UnitError.none := by
    intro u
    simp [Sma.unitError, h, Store.read, Store.find]
  simp [State.lineRead, State.checkUnit_clean s line _ (hu _)]

end Sys2Proof.Machine
end

