-- ==== Sys2Proof/Laws/Event.lean ====
section
/-! SUPPORT. What the shared operations of an event do: offering, the engines' follow-up, the examination of a head, the
arrival of requests and releases, and a management command. -/

namespace Sys2Proof.Machine

/-! ## The follow-up of an event -/

/-- The follow-up does nothing where nothing is owed. -/
theorem State.settle_of_settled {s : State} (h : s.Settled) : s.settle = s := by
  simp [State.settle, State.settleWithin, State.cursorService, h]

/-- A cursor that has nothing to do only takes its mark off. -/
theorem State.cursorService_of_idle {s : State} (h : s.sweep.activity = .idle) :
    s.cursorService = { s with work := { s.work with cursorDue := false } } := by
  by_cases d : s.work.cursorDue = true
  · simp [State.cursorService, d, h]
  · have d' : s.work.cursorDue = false := by simpa using d
    have e : ({ s with work := { s.work with cursorDue := false } } : State) = s := by rw [← d']
    simp [State.cursorService, d', e]

/-- A port without requests has no head to examine. -/
theorem State.examineHeads_of_empty {s : State} {p : Port} (h : (s.port p).requests = []) : s.examineHeads p = s := by
  simp [State.examineHeads, State.examineFrom, h]

/-- A pass over empty queues does nothing. -/
theorem State.pass_of_empty {s : State} (h : ∀ p, (s.port p).requests = []) : s.pass = s := by
  have all : ∀ ps : List Port, ps.foldl State.examineHeads s = s := by
    intro ps
    induction ps with
    | nil => rfl
    | cons p ps ih => rw [List.foldl_cons, State.examineHeads_of_empty (h p), ih]
  exact all _

/-- One round of the follow-up, with the Sweep Engine idle and no request queued, only takes the marks off. -/
theorem State.settleWithin_of_quiet (n : Nat) {s : State} (hi : s.sweep.activity = .idle)
    (hr : ∀ p, (s.port p).requests = []) :
    State.settleWithin (n + 2) s = { s with work := ⟨false, false⟩ } := by
  have round : ∀ (m : Nat) (u : State), u.sweep.activity = .idle → u.work.passDue = false →
      State.settleWithin (m + 1) u = { u with work := ⟨false, false⟩ } := by
    intro m u hu hd
    simp only [State.settleWithin]
    rw [State.cursorService_of_idle hu]
    simp [hd]
  cases d : s.work.passDue with
  | false => exact round _ s hi d
  | true =>
    have first : State.settleWithin (n + 2) s =
        State.settleWithin (n + 1) ({ s with work := ⟨false, false⟩ } : State).pass := by
      conv => lhs; unfold State.settleWithin
      simp only [State.cursorService_of_idle hi, d, if_true]
    have quiet : ({ s with work := ⟨false, false⟩ } : State).pass = { s with work := ⟨false, false⟩ } :=
      State.pass_of_empty hr
    rw [first, quiet]
    exact round n _ hi rfl

/-- With the Sweep Engine idle and no request queued, the follow-up only takes the marks off. -/
theorem State.settle_of_quiet {s : State} (hi : s.sweep.activity = .idle) (hr : ∀ p, (s.port p).requests = []) :
    s.settle = { s with work := ⟨false, false⟩ } := State.settleWithin_of_quiet _ hi hr

/-! ## Offering -/

/-- A message offered to a port with room is placed. -/
theorem State.offer_of_room {s : State} {p : Port} (o : Offer) (h : s.hasRoom p = true) : s.offer p o = s.place p o := by
  simp [State.offer, h]

/-- A message offered to a port without room joins its wait list. -/
theorem State.offer_of_full {s : State} {p : Port} (o : Offer) (h : s.hasRoom p = false) :
    s.offer p o = s.enqueueOffer p o := by
  simp [State.offer, h]

/-- An open port has room. -/
theorem State.Open.hasRoom {s : State} {p : Port} (h : s.Open p) : s.hasRoom p = true := by
  simp [State.hasRoom, h.room, h.waiting]

/-- A plain message offered to a port with room goes to the end of its outbound queue. -/
theorem State.offer_plain {s : State} {p : Port} (m : Msg) (h : s.hasRoom p = true) :
    s.offer p (.plain m) = s.updPort p fun ps => { ps with outbound := ps.outbound ++ [m] } := by
  rw [State.offer_of_room _ h]
  rfl

/-- The answer of a request head, offered to a port with room, takes the head from its queue. -/
theorem State.offer_head {s : State} {p : Port} (m : Msg) (h : s.hasRoom p = true) :
    s.offer p (.head m) = s.updPort p fun ps =>
      { ps with outbound := ps.outbound ++ [m], requests := ps.requests.tail, headAnswering := false } := by
  rw [State.offer_of_room _ h]
  rfl

/-- The answer of a release head, offered to a port with room, takes the head from its queue. -/
theorem State.offer_release {s : State} {p : Port} (m : Msg) (h : s.hasRoom p = true) :
    s.offer p (.release m) = s.updPort p fun ps =>
      { ps with outbound := ps.outbound ++ [m], releases := ps.releases.tail, releaseApplied := false } := by
  rw [State.offer_of_room _ h]
  rfl

/-! ## Arrival -/

/-- A request or release frame is taken by its effect in UP, after the frame is counted good. -/
theorem State.messageFrame_up {s : State} {p : Port} (f : State → State) (h : (s.port p).link = .up) :
    s.messageFrame p f = f (s.goodFrame p) := by
  simp [State.messageFrame, h]

/-- A request that finds an empty queue is examined at once, and the event's follow-up is done. -/
theorem State.acceptRequest_first {s : State} {p : Port} (r : Request) (h : (s.port p).requests = []) :
    s.acceptRequest p r = ((s.joinRequests p r).examineHeads p).settle := by
  simp [State.acceptRequest, h, Config.requestDepth]

/-- A head of an UP port that is not being answered is examined, and the queue behind it is empty: one examination. -/
theorem State.examineHeads_single {s : State} {p : Port} {r : Request} (hu : s.isUp p = true)
    (ha : (s.port p).headAnswering = false) (hr : (s.port p).requests = [r]) :
    s.examineHeads p = if s.verdict p r = .hold then s else (s.actOn p r).cursorService := by
  have hh : s.headToExamine p = some r := by simp [State.headToExamine, hu, ha, hr]
  simp [State.examineHeads, hr, State.examineFrom, hh]

/-- A release that finds an empty queue is taken at once. -/
theorem State.acceptRelease_first {s : State} {p : Port} (r : Release) (h : (s.port p).releases = []) :
    s.acceptRelease p r = (s.joinReleases p r).takeReleases p := by
  simp [State.acceptRelease, h, Config.releaseDepth]

/-- The one release of an UP port that is not applied yet is taken, and the event's follow-up is done. -/
theorem State.takeReleases_single {s : State} {p : Port} {r : Release} (hu : s.isUp p = true)
    (ha : (s.port p).releaseApplied = false) (hr : (s.port p).releases = [r]) :
    s.takeReleases p = (s.takeRelease p r).settle := by
  have hh : s.releaseToTake p = some r := by simp [State.releaseToTake, hu, ha, hr]
  simp [State.takeReleases, hr, State.takeFrom, hh]

/-! ## Management -/

/-- A management command acts except while RESET_N is low. -/
theorem State.managed_of_awake {s : State} (f : State → State) (h : s.init ≠ .resetLow) : s.managed f = f s := by
  unfold State.managed
  split <;> first | rfl | contradiction

/-- While RESET_N is low a management command does nothing. -/
theorem State.managed_of_reset {s : State} (f : State → State) (h : s.init = .resetLow) : s.managed f = s := by
  simp [State.managed, h]

/-! ## Lookups -/

/-- The entry a lookup finds names the line and stands in the line's set. -/
theorem State.lookup_mem {s : State} {line : LineNo} {e : Entry} (h : s.lookup line = some e) :
    e ∈ s.setEntries (setOf line) ∧ e.line = line :=
  ⟨List.mem_of_find?_eq_some h, by simpa using List.find?_some h⟩

/-- No watch event where no enabled entry matches. -/
theorem State.watchTest_of_unwatched {s : State} {p : Port} {line : LineNo} {c : WatchClass} (h : s.Unwatched p line c) :
    s.watchTest p line c = s := by
  have e : (s.watch.entries.any fun e => e.enabled && e.isMatch p line c) = false := by
    rw [List.any_eq_false]
    intro x hx
    by_cases en : x.enabled = true
    · simp [en, h x hx en]
    · simp [en]
  simp [State.watchTest, e]

/-- An access is tested as `noted` says. -/
theorem State.watchTest_eq_noted (s : State) (p : Port) (line : LineNo) (c : WatchClass) :
    s.watchTest p line c = s.noted p line c := rfl

/-- A unit in which at most two bits are wrong is checked as `readUnit` says. -/
theorem State.checkUnit_eq_readUnit {s : State} {line : LineNo} {u : Nat} (h : (s.sma.unitError line u).weight ≤ 2) :
    s.checkUnit line u = s.readUnit line u := by
  unfold State.checkUnit State.readUnit Sma.unitOutcome checkOutcome
  match hw : (s.sma.unitError line u).weight, h with
  | 0, _ => simp [hw]
  | 1, _ => by_cases hc : s.sma.cecnt = 65535#16 <;> simp [hw, State.raiseCecnt, saturatingInc, hc]
  | 2, _ => simp [hw, State.poison]

/-- Reading one unit leaves what is wrong in the other units of the line. -/
theorem State.unitError_readUnit_ne (s : State) (line : LineNo) {u v : Nat} (h : v ≠ u) :
    (s.readUnit line u).sma.unitError line v = s.sma.unitError line v := by
  have hn : unitNumber line v ≠ unitNumber line u := by unfold unitNumber; omega
  unfold State.readUnit
  dsimp only
  split
  · exact Store.read_write_ne UnitError.none s.sma.errors UnitError.none hn
  · split
    · rfl
    · rfl

/-- A line in whose units at most two bits are wrong is read as `readThrough` says. -/
theorem State.lineRead_eq_readThrough {s : State} {line : LineNo} (h : s.Checkable line) :
    s.lineRead line = s.readThrough line := by
  have e0 := State.checkUnit_eq_readUnit (h 0 (by omega))
  have e1 : (s.readUnit line 0).checkUnit line 1 = (s.readUnit line 0).readUnit line 1 :=
    State.checkUnit_eq_readUnit (by rw [State.unitError_readUnit_ne _ _ (by omega)]; exact h 1 (by omega))
  have e2 : ((s.readUnit line 0).readUnit line 1).checkUnit line 2 = ((s.readUnit line 0).readUnit line 1).readUnit line 2 :=
    State.checkUnit_eq_readUnit (by
      rw [State.unitError_readUnit_ne _ _ (by omega), State.unitError_readUnit_ne _ _ (by omega)]; exact h 2 (by omega))
  have e3 : (((s.readUnit line 0).readUnit line 1).readUnit line 2).checkUnit line 3 = s.readThrough line :=
    State.checkUnit_eq_readUnit (by
      rw [State.unitError_readUnit_ne _ _ (by omega), State.unitError_readUnit_ne _ _ (by omega),
        State.unitError_readUnit_ne _ _ (by omega)]
      exact h 3 (by omega))
  rw [State.lineRead, e0, e1, e2, e3]

/-- A line whose units are clean is read without effect. -/
theorem State.lineRead_of_clean {s : State} {line : LineNo} (h : s.Clean line) : s.lineRead line = s := by
  have one : ∀ u < 4, s.checkUnit line u = s := by
    intro u hu
    simp [State.checkUnit, Sma.unitOutcome, h u hu, checkOutcome, UnitError.none, UnitError.weight, bitCount]
  simp [State.lineRead, one]

end Sys2Proof.Machine
end

