-- ==== Sys2Proof/Laws/Frame.lean ====
section
/-! SUPPORT. What the events of the hub never change: the time, the settings, the Inspect Window and the queue of commands
stay, and the array's stores stay canonical. One lemma for each shared operation. -/

namespace Sys2Proof.Machine

/-- `t` has the time, the settings, the Inspect Window and the queue of `s`, and an array in canonical form where `s` has. -/
structure State.EventFrame (s t : State) : Prop where
  now : t.now = s.now
  init : t.init = s.init
  prot0 : t.prot0 = s.prot0
  prot1 : t.prot1 = s.prot1
  nmask : t.nmask = s.nmask
  excl : t.excl = s.excl
  rto : t.rto = s.rto
  lkt : t.lkt = s.lkt
  tpat : t.tpat = s.tpat
  insp : t.insp = s.insp
  draws : t.draws = s.draws
  pending : t.pending = s.pending
  array : s.sma.Form → t.sma.Form

namespace State.EventFrame

variable {s t u : State}

theorem refl (s : State) : s.EventFrame s := ⟨rfl, rfl, rfl, rfl, rfl, rfl, rfl, rfl, rfl, rfl, rfl, rfl, id⟩

theorem trans (h : s.EventFrame t) (g : t.EventFrame u) : s.EventFrame u :=
  ⟨g.now.trans h.now, g.init.trans h.init, g.prot0.trans h.prot0, g.prot1.trans h.prot1, g.nmask.trans h.nmask,
    g.excl.trans h.excl, g.rto.trans h.rto, g.lkt.trans h.lkt, g.tpat.trans h.tpat, g.insp.trans h.insp,
    g.draws.trans h.draws, g.pending.trans h.pending, fun a => g.array (h.array a)⟩

/-- Whatever happens to the directory, the transactions, the ports, the sweep, the watch entries, the notices, the capture
and the marks. -/
theorem of_events (s : State) (dir : Store (List Entry)) (txns : Store Txn) (seqs : Store Nat) (last : Port)
    (ports : PerPort PortState) (sweep : Sweep) (watch : Watch) (nstat : Reg16) (capture : Option Capture) (work : Work) :
    s.EventFrame { s with
      dir := dir, txns := txns, seqs := seqs, lastAdmitted := last, ports := ports, sweep := sweep, watch := watch
      nstat := nstat, capture := capture, work := work } :=
  ⟨rfl, rfl, rfl, rfl, rfl, rfl, rfl, rfl, rfl, rfl, rfl, rfl, id⟩

/-- A change of the array that keeps its form. -/
theorem of_array (s : State) (a : Sma) (h : s.sma.Form → a.Form) : s.EventFrame { s with sma := a } :=
  ⟨rfl, rfl, rfl, rfl, rfl, rfl, rfl, rfl, rfl, rfl, rfl, rfl, h⟩

theorem foldl {α : Type} {f : State → α → State} (h : ∀ (s : State) (a : α), s.EventFrame (f s a)) (l : List α) (s : State) :
    s.EventFrame (l.foldl f s) := by
  induction l generalizing s with
  | nil => exact refl s
  | cons a l ih => exact (h s a).trans (ih _)

/-! ## Ports, sets, slots, notices -/

theorem updPort (s : State) (p : Port) (f : PortState → PortState) : s.EventFrame (s.updPort p f) :=
  of_events s _ _ _ _ _ _ _ _ _ _

theorem putSet (s : State) (set : Nat) (es : List Entry) : s.EventFrame (s.putSet set es) :=
  of_events s _ _ _ _ _ _ _ _ _ _

theorem putTxn (s : State) (n : Nat) (t : Txn) : s.EventFrame (s.putTxn n t) := of_events s _ _ _ _ _ _ _ _ _ _

theorem updTxn (s : State) (n : Nat) (f : Txn → Txn) : s.EventFrame (s.updTxn n f) := by
  unfold State.updTxn
  split
  · exact putTxn s n _
  · exact refl s

theorem advanceSeq (s : State) (n : Nat) : s.EventFrame (s.advanceSeq n) := of_events s _ _ _ _ _ _ _ _ _ _

theorem latch (s : State) (n : Notice) : s.EventFrame (s.latch n) := of_events s _ _ _ _ _ _ _ _ _ _

theorem latchPort (s : State) (p : Port) (l : PortLatch) : s.EventFrame (s.latchPort p l) :=
  of_events s _ _ _ _ _ _ _ _ _ _

theorem latchBoth (s : State) (p : Port) (n : Notice) (l : PortLatch) : s.EventFrame (s.latchBoth p n l) :=
  (latch s n).trans (latchPort _ p l)

theorem report (s : State) (set : Nat) : s.EventFrame (s.report set) := of_events s _ _ _ _ _ _ _ _ _ _

theorem reportSlot (s : State) : s.EventFrame s.reportSlot := of_events s _ _ _ _ _ _ _ _ _ _

theorem eraseTxn (s : State) (n : Nat) : s.EventFrame { s with txns := Store.erase s.txns n } :=
  of_events s _ _ _ _ _ _ _ _ _ _

/-! ## The array -/

theorem raiseCecnt (s : State) : s.EventFrame s.raiseCecnt := of_array s _ fun h => ⟨h.bytes, h.errors, h.conds⟩

theorem poison (s : State) (line : LineNo) : s.EventFrame (s.poison line) :=
  (of_array s _ fun h => Sma.form_setCond h line .poisoned).trans (latch _ _)

theorem checkUnit (s : State) (line : LineNo) {u : Nat} (hu : u < 4) : s.EventFrame (s.checkUnit line u) := by
  unfold State.checkUnit
  split
  · exact refl s
  · exact ((of_array s _ fun h => Sma.form_writeUnit h line hu _ _).trans (raiseCecnt _)).trans (latch _ _)
  · exact poison s line

theorem lineRead (s : State) (line : LineNo) : s.EventFrame (s.lineRead line) :=
  (((checkUnit s line (by omega)).trans (checkUnit _ line (by omega))).trans (checkUnit _ line (by omega))).trans
    (checkUnit _ line (by omega))

theorem lineWrite (s : State) (line : LineNo) (d : LineData) : s.EventFrame (s.lineWrite line d) :=
  of_array s _ fun h => Sma.form_writeLine h line d

/-! ## The Watch Unit -/

theorem watchEvent (s : State) (p : Port) (line : LineNo) (c : WatchClass) (o : WatchOutcome) :
    s.EventFrame (s.watchEvent p line c o) := of_events s _ _ _ _ _ _ _ _ _ _

theorem watchTest (s : State) (p : Port) (line : LineNo) (c : WatchClass) : s.EventFrame (s.watchTest p line c) := by
  unfold State.watchTest
  split
  · exact watchEvent s p line c .noted
  · exact refl s

theorem endSessions (s : State) (p : Port) : s.EventFrame (s.endSessions p) := of_events s _ _ _ _ _ _ _ _ _ _

/-! ## The directory -/

theorem updEntry (s : State) (line : LineNo) (f : Entry → Entry) : s.EventFrame (s.updEntry line f) := putSet s _ _

theorem dropEntry (s : State) (line : LineNo) : s.EventFrame (s.dropEntry line) := putSet s _ _

theorem freeEntry (s : State) (line : LineNo) : s.EventFrame (s.freeEntry line) := (dropEntry s line).trans (report _ _)

theorem freeIfIdle (s : State) (line : LineNo) : s.EventFrame (s.freeIfIdle line) := by
  unfold State.freeIfIdle
  split
  · split
    · exact freeEntry s line
    · exact refl s
  · exact refl s

theorem changeHolding (s : State) (line : LineNo) (f : Holding → Holding) : s.EventFrame (s.changeHolding line f) := by
  unfold State.changeHolding
  split
  · exact refl s
  · refine .trans ?_ (freeIfIdle _ line)
    split
    · exact (updEntry s line _).trans (report _ _)
    · exact updEntry s line _

theorem allocate (s : State) (line : LineNo) (way slot : Nat) : s.EventFrame (s.allocate line way slot) := putSet s _ _

theorem setBusy (s : State) (line : LineNo) (slot : Nat) : s.EventFrame (s.setBusy line slot) := updEntry s line _

theorem clearBusy (s : State) (line : LineNo) (slot : Nat) : s.EventFrame (s.clearBusy line slot) := by
  unfold State.clearBusy
  split
  · split
    · exact (updEntry s line _).trans (report _ _)
    · exact refl s
  · exact refl s

theorem toMostRecent (s : State) (line : LineNo) : s.EventFrame (s.toMostRecent line) := putSet s _ _

theorem removeLock (s : State) (line : LineNo) : s.EventFrame (s.removeLock line) := changeHolding s line _

/-! ## Placing -/

theorem pushOut (s : State) (p : Port) (m : Msg) : s.EventFrame (s.pushOut p m) := updPort s p _

theorem completeTxn (s : State) (slot : Nat) : s.EventFrame (s.completeTxn slot) := by
  unfold State.completeTxn
  split
  · exact refl s
  · exact (((clearBusy s _ slot).trans (freeIfIdle _ _)).trans (eraseTxn _ slot)).trans (reportSlot _)

theorem grantRead (s : State) (t : Txn) (g : GrantForm) : s.EventFrame (s.grantRead t g) := by
  unfold State.grantRead
  split
  · exact lineRead s _
  · exact refl s

theorem grantEntry (s : State) (line : LineNo) (g : GrantForm) : s.EventFrame (s.grantEntry line g) :=
  (updEntry s line _).trans (toMostRecent _ line)

theorem grantWatch (s : State) (p : Port) (t : Txn) : s.EventFrame (s.grantWatch p t) := by
  unfold State.grantWatch
  split
  · exact watchTest s p _ _
  · exact refl s

theorem placeForm (s : State) (p : Port) (slot : Nat) (t : Txn) (g : GrantForm) : s.EventFrame (s.placeForm p slot t g) :=
  ((((grantRead s t g).trans (pushOut _ p _)).trans (grantEntry _ _ g)).trans (grantWatch _ p t)).trans (completeTxn _ slot)

theorem placeGrant (s : State) (p : Port) (slot : Nat) : s.EventFrame (s.placeGrant p slot) := by
  unfold State.placeGrant
  split
  · exact refl s
  · split
    · exact placeForm s p slot _ _
    · exact refl s

theorem place (s : State) (p : Port) (o : Offer) : s.EventFrame (s.place p o) := by
  unfold State.place
  split
  · exact placeGrant s p _
  · exact (pushOut s p _).trans (updTxn _ _ _)
  · exact updPort s p _
  · exact updPort s p _
  · exact pushOut s p _

theorem enqueueOffer (s : State) (p : Port) (o : Offer) : s.EventFrame (s.enqueueOffer p o) := by
  unfold State.enqueueOffer
  refine .trans (updPort s p fun ps => { ps with waiting := ps.waiting ++ [o] }) ?_
  split
  · exact updTxn _ _ _
  · exact refl _
  · exact refl _
  · exact refl _
  · exact refl _

theorem offer (s : State) (p : Port) (o : Offer) : s.EventFrame (s.offer p o) := by
  unfold State.offer
  split
  · exact place s p o
  · exact enqueueOffer s p o

theorem offerRecalls (s : State) (slot : Nat) : s.EventFrame (s.offerRecalls slot) := by
  unfold State.offerRecalls
  split
  · exact refl s
  · exact foldl (fun s (m : Member) => offer s m.port _) _ s

theorem offerGrant (s : State) (slot : Nat) : s.EventFrame (s.offerGrant slot) := by
  unfold State.offerGrant
  split
  · exact refl s
  · split
    · exact refl s
    · exact (putTxn s slot _).trans (offer _ _ _)

/-- What a completed VICTIM hands to its partner. -/
theorem handOver (s : State) (partner : Option Nat) (way : Nat) :
    s.EventFrame (match partner with
      | none => s
      | some q =>
        match s.txn q with
        | none => s
        | some r =>
          if r.abandoned then { s with txns := Store.erase s.txns q }.reportSlot
          else (s.allocate r.line way q).offerGrant q) := by
  split
  · exact refl s
  · split
    · exact refl s
    · split
      · exact (eraseTxn s _).trans (reportSlot _)
      · exact (allocate s _ _ _).trans (offerGrant _ _)

theorem completeVictim (s : State) (slot : Nat) : s.EventFrame (s.completeVictim slot) := by
  unfold State.completeVictim
  split
  · exact refl s
  · rename_i t _
    exact (((dropEntry s t.line).trans (report _ (setOf t.line))).trans ((eraseTxn _ slot).trans (reportSlot _))).trans
      (handOver _ _ _)

theorem leaveRecalling (s : State) (slot : Nat) : s.EventFrame (s.leaveRecalling slot) := by
  have agent : ∀ t : Txn, s.EventFrame (if t.abandoned then s.completeTxn slot else s.offerGrant slot) := by
    intro t
    split
    · exact completeTxn s slot
    · exact offerGrant s slot
  unfold State.leaveRecalling
  split
  · exact refl s
  · split
    · split
      · exact completeVictim s slot
      · exact completeTxn s slot
      · exact agent _
      · exact agent _
      · exact agent _
      · exact agent _
    · exact refl s

theorem answerMember (s : State) (slot : Nat) (p : Port) : s.EventFrame (s.answerMember slot p) :=
  ((updTxn s slot _).trans (updPort _ p _)).trans (leaveRecalling _ slot)

/-! ## Sweeps -/

theorem advanceCursor (s : State) : s.EventFrame s.advanceCursor := of_events s _ _ _ _ _ _ _ _ _ _

theorem openTxn (s : State) (slot : Nat) (r : Tag → Txn) : s.EventFrame (s.openTxn slot r) :=
  (advanceSeq s slot).trans (putTxn _ slot _)

theorem startSweep (s : State) (slot : Nat) (line : LineNo) (ms : List Port) : s.EventFrame (s.startSweep slot line ms) :=
  (((openTxn s slot _).trans (setBusy _ line slot)).trans (offerRecalls _ slot)).trans (advanceCursor _)

theorem endSweep (s : State) : s.EventFrame s.endSweep :=
  ((((of_events s _ _ _ _ _ { s.sweep with activity := .idle, last := s.sweep.result } _ _ _ _).trans
    (latch _ .sweepDone)).trans (foldl (fun s p => offer s p (.plain .swept)) _ _)).trans
      (of_events _ _ _ _ _ _ _ _ _ _ _))

theorem endTest (s : State) : s.EventFrame s.endTest := by
  unfold State.endTest
  split
  · exact endSweep s
  · exact refl s

theorem closeSweep (s : State) : s.EventFrame s.closeSweep :=
  (of_events s _ _ _ _ _ { s.sweep with activity := .closing } _ _ _ _).trans (endTest _)

theorem runCursor (n : Nat) (s : State) : s.EventFrame (State.runCursor n s) := by
  induction n generalizing s with
  | zero => exact refl s
  | succ n ih =>
    unfold State.runCursor
    split
    · split
      · exact (advanceCursor s).trans (ih _)
      · exact refl s
      · split
        · exact refl s
        · exact (startSweep s _ _ _).trans (ih _)
    · exact closeSweep s

theorem sweepOn (s : State) : s.EventFrame s.sweepOn := runCursor _ s

theorem beginCursor (s : State) : s.EventFrame s.beginCursor :=
  (of_events s _ _ _ _ _ { s.sweep with activity := .sweeping, cursor := 0 } _ _ _ _).trans (sweepOn _)

theorem cursorService (s : State) : s.EventFrame s.cursorService := by
  unfold State.cursorService
  split
  · refine .trans (t := { s with work := { s.work with cursorDue := false } }) (of_events s _ _ _ _ _ _ _ _ _ _) ?_
    dsimp only
    split
    · exact refl _
    · split
      · exact beginCursor _
      · exact refl _
    · exact sweepOn _
    · exact endTest _
  · exact refl s

/-! ## Admission -/

theorem claim (s : State) (p : Port) (a : Acquire) (line : LineNo) (slot : Nat) : s.EventFrame (s.claim p a line slot) := by
  unfold State.claim
  split
  · exact ((openTxn s slot _).trans (setBusy _ line slot)).trans (offerRecalls _ slot)
  · split
    · exact (openTxn s slot _).trans (allocate _ line _ slot)
    · split
      · exact (((openTxn s slot _).trans (openTxn _ _ _)).trans (setBusy _ _ _)).trans (offerRecalls _ _)
      · exact refl s

theorem grantIfReady (s : State) (slot : Nat) : s.EventFrame (s.grantIfReady slot) := by
  unfold State.grantIfReady
  split
  · split
    · exact offerGrant s slot
    · exact refl s
  · exact refl s

theorem take (s : State) (p : Port) (a : Acquire) (line : LineNo) : s.EventFrame (s.take p a line) := by
  unfold State.take
  split
  · exact refl s
  · rename_i slot rest _
    have first : s.EventFrame (if s.usesPermit a.kind line then s.updPort p fun ps => { ps with permit := false } else s) := by
      split
      · exact updPort s p _
      · exact refl s
    exact (((first.trans (claim _ p a line slot)).trans (of_events _ _ _ _ p _ _ _ _ _ _)).trans (updPort _ p _)).trans
      (grantIfReady _ slot)

theorem refusalWatch (s : State) (p : Port) (a : Acquire) (r : RefuseReason) : s.EventFrame (s.refusalWatch p a r) := by
  unfold State.refusalWatch
  split
  · exact watchEvent s p _ _ _
  · exact refl s

theorem refuse (s : State) (p : Port) (a : Acquire) (r : RefuseReason) : s.EventFrame (s.refuse p a r) :=
  ((refusalWatch s p a r).trans (updPort _ p _)).trans (offer _ p _)

theorem acceptPermit (s : State) (p : Port) : s.EventFrame (s.acceptPermit p) := (updPort s p _).trans (offer _ p _)

theorem actOn (s : State) (p : Port) (r : Request) : s.EventFrame (s.actOn p r) := by
  unfold State.actOn
  split
  · exact acceptPermit s p
  · split
    · exact refl s
    · exact refuse s p _ _
    · exact refl s
    · exact take s p _ _

theorem examineFrom (n : Nat) (s : State) (p : Port) : s.EventFrame (State.examineFrom n s p) := by
  induction n generalizing s with
  | zero => exact refl s
  | succ n ih =>
    unfold State.examineFrom
    split
    · exact refl s
    · split
      · exact refl s
      · exact ((actOn s p _).trans (cursorService _)).trans (ih _)

theorem examineHeads (s : State) (p : Port) : s.EventFrame (s.examineHeads p) := examineFrom _ s p

theorem pass (s : State) : s.EventFrame s.pass := foldl examineHeads _ s

theorem settleWithin (n : Nat) (s : State) : s.EventFrame (State.settleWithin n s) := by
  induction n generalizing s with
  | zero => exact refl s
  | succ n ih =>
    unfold State.settleWithin
    refine .trans (cursorService s) ?_
    dsimp only
    split
    · exact ((of_events _ _ _ _ _ _ _ _ _ _ { s.cursorService.work with passDue := false }).trans (pass _)).trans (ih _)
    · exact refl _

theorem settle (s : State) : s.EventFrame s.settle := settleWithin _ s

/-! ## Retirement -/

theorem stripLine (p : Port) (s : State) (line : LineNo) : s.EventFrame (State.stripLine p s line) := by
  unfold State.stripLine
  refine .trans (t := if s.ownerOf line = some p then s.poison line else s) ?_ (changeHolding _ line _)
  split
  · exact poison s line
  · exact refl s

theorem stripPort (s : State) (p : Port) : s.EventFrame (s.stripPort p) := foldl (stripLine p) _ s

theorem askDraining (s : State) : s.EventFrame s.askDraining := by
  unfold State.askDraining
  split
  · exact of_events s _ _ _ _ _ _ _ _ _ _
  · exact refl s

theorem abandonSlot (p : Port) (s : State) (slot : Nat) : s.EventFrame (State.abandonSlot p s slot) := by
  unfold State.abandonSlot
  split
  · exact refl s
  · split
    · rename_i t _ _
      have first := (putTxn s slot { t with abandoned := true }).trans (askDraining _)
      split
      · exact first.trans (completeTxn _ slot)
      · exact first
    · exact refl s

theorem abandonAll (s : State) (p : Port) : s.EventFrame (s.abandonAll p) := foldl (abandonSlot p) _ s

theorem answerSlot (p : Port) (s : State) (slot : Nat) : s.EventFrame (State.answerSlot p s slot) := by
  unfold State.answerSlot
  split
  · exact refl s
  · split
    · exact answerMember s slot p
    · exact refl s

theorem answerAll (s : State) (p : Port) : s.EventFrame (s.answerAll p) := foldl (answerSlot p) _ s

theorem latchDeparture (s : State) (p : Port) (d : Departure) : s.EventFrame (s.latchDeparture p d) := by
  cases d with
  | loss => exact latchBoth s p .portLoss .loss
  | fault => exact latchBoth s p .portFault .fault

theorem depart (s : State) (p : Port) (d : Departure) : s.EventFrame (s.depart p d) :=
  ((updPort s p _).trans (endSessions _ p)).trans (latchDeparture _ p d)

theorem retire (s : State) (p : Port) (d : Departure) : s.EventFrame (s.retire p d) :=
  (((stripPort s p).trans (abandonAll _ p)).trans (answerAll _ p)).trans (depart _ p d)

theorem setLink (s : State) (p : Port) (l : LinkState) : s.EventFrame (s.setLink p l) := updPort s p _

theorem portFault (s : State) (p : Port) : s.EventFrame (s.portFault p) := by
  unfold State.portFault
  split
  · exact (retire s p .fault).trans (setLink _ p .faulted)
  · exact refl s

/-! ## Releases -/

theorem releaseMember (s : State) (p : Port) (line : LineNo) : s.EventFrame (s.releaseMember p line) := by
  unfold State.releaseMember
  split
  · exact updTxn s _ _
  · exact refl s

theorem releaseData (s : State) (p : Port) (line : LineNo) (d : LineData) : s.EventFrame (s.releaseData p line d) :=
  (lineWrite s line d).trans (watchTest _ p line .release)

theorem takeWriteback (s : State) (p : Port) (f : LineField) (keep : Bool) (d : LineData) :
    s.EventFrame (s.takeWriteback p f keep d).1 := by
  unfold State.takeWriteback
  split
  · exact latchBoth s p .protocol .protocol
  · split
    · exact ((releaseData s p _ d).trans (changeHolding _ _ _)).trans (releaseMember _ p _)
    · exact latchBoth s p .protocol .protocol

theorem takeEvict (s : State) (p : Port) (f : LineField) : s.EventFrame (s.takeEvict p f) := by
  unfold State.takeEvict
  split
  · exact refl s
  · exact (changeHolding s _ _).trans (releaseMember _ p _)

theorem takeUnlock (s : State) (p : Port) (f : LineField) : s.EventFrame (s.takeUnlock p f).1 := by
  unfold State.takeUnlock
  split
  · exact refl s
  · split
    · exact removeLock s _
    · exact refl s

theorem answerData (s : State) (p : Port) (line : LineNo) (m : Member) (a : Answer) :
    s.EventFrame (s.answerData p line m a) := by
  unfold State.answerData
  split
  · exact releaseData s p line _
  · exact refl s
  · split
    · exact poison s line
    · exact refl s

theorem takeRecallAck (s : State) (p : Port) (f : LineField) (tag : Tag) (a : Answer) :
    s.EventFrame (s.takeRecallAck p f tag a) := by
  unfold State.takeRecallAck
  split
  · exact updPort s p _
  · exact ((answerData s p _ _ a).trans (changeHolding _ _ _)).trans (answerMember _ _ p)

theorem takeRelease (s : State) (p : Port) (r : Release) : s.EventFrame (s.takeRelease p r) := by
  cases r with
  | writeback f keep d => exact ((updPort s p _).trans (takeWriteback _ p f keep d)).trans (offer _ p _)
  | evict f => exact ((updPort s p _).trans (takeEvict _ p f)).trans (offer _ p _)
  | unlock f => exact ((updPort s p _).trans (takeUnlock _ p f)).trans (offer _ p _)
  | recallAck f tag a => exact (updPort s p _).trans (takeRecallAck _ p f tag a)

theorem takeFrom (n : Nat) (s : State) (p : Port) : s.EventFrame (State.takeFrom n s p) := by
  induction n generalizing s with
  | zero => exact refl s
  | succ n ih =>
    unfold State.takeFrom
    split
    · exact refl s
    · exact ((takeRelease s p _).trans (settle _)).trans (ih _)

theorem takeReleases (s : State) (p : Port) : s.EventFrame (s.takeReleases p) := takeFrom _ s p

theorem acceptRelease (s : State) (p : Port) (r : Release) : s.EventFrame (s.acceptRelease p r) := by
  unfold State.acceptRelease
  split
  · refine .trans (t := s.joinReleases p r) (updPort s p _) ?_
    dsimp only
    split
    · exact takeReleases _ p
    · exact refl _
  · exact (portFault s p).trans (settle _)

theorem requestOverrun (s : State) (p : Port) (r : Request) : s.EventFrame (s.requestOverrun p r) := by
  unfold State.requestOverrun
  refine .trans ((updPort s p fun ps => { ps with overruns := saturatingInc ps.overruns }).trans
    (latchBoth _ p .overrun .overrun)) ?_
  dsimp only
  split
  · exact pushOut _ p _
  · exact refl _

theorem acceptRequest (s : State) (p : Port) (r : Request) : s.EventFrame (s.acceptRequest p r) := by
  unfold State.acceptRequest
  split
  · refine .trans (t := s.joinRequests p r) (updPort s p _) ?_
    dsimp only
    split
    · exact (examineHeads _ p).trans (settle _)
    · exact refl _
  · exact requestOverrun s p r

/-! ## The link -/

theorem keepTrain (s : State) (p : Port) : s.EventFrame (s.keepTrain p) := by
  unfold State.keepTrain
  split
  · exact offer s p _
  · exact refl s

theorem enterTraining (s : State) (p : Port) : s.EventFrame (s.enterTraining p) := (updPort s p _).trans (keepTrain _ p)

theorem trainTest (s : State) (p : Port) : s.EventFrame (s.trainTest p) := by
  unfold State.trainTest
  split
  · exact enterTraining s p
  · exact refl s

theorem trainTests (s : State) : s.EventFrame s.trainTests := foldl trainTest _ s

theorem leaveBringUp (s : State) (p : Port) : s.EventFrame (s.leaveBringUp p) := updPort s p _

theorem backToTraining (s : State) (p : Port) : s.EventFrame (s.backToTraining p) :=
  (updPort s p _).trans (enterTraining _ p)

theorem enterQualify (s : State) (p : Port) : s.EventFrame (s.enterQualify p) := (updPort s p _).trans (offer _ p _)

theorem echoMatch (s : State) (p : Port) (pattern : Byte) : s.EventFrame (s.echoMatch p pattern) := by
  have counted : ∀ n : Nat, s.EventFrame
      (if Config.matchLimit ≤ n then (s.updPort p fun ps => { ps with matchCount := n }).enterQualify p
        else s.updPort p fun ps => { ps with matchCount := n }) := by
    intro n
    split
    · exact (updPort s p _).trans (enterQualify _ p)
    · exact updPort s p _
  exact counted _

theorem enterUp (s : State) (p : Port) (label : BitVec 16) : s.EventFrame (s.enterUp p label) :=
  (updPort s p _).trans (latchBoth _ p .portUp .up)

theorem takeHello (s : State) (p : Port) (label : BitVec 16) : s.EventFrame (s.takeHello p label) := by
  unfold State.takeHello
  split
  · exact enterUp s p label
  · exact updPort s p _

theorem linkLoss (s : State) (p : Port) : s.EventFrame (s.linkLoss p) := by
  unfold State.linkLoss
  split
  · exact ((updPort s p _).trans (latchBoth _ p .portLoss .loss)).trans (trainTest _ p)
  · exact (((retire s p .loss).trans (setLink _ p .down)).trans (trainTest _ p)).trans (settle _)

theorem badInRow (s : State) (p : Port) : s.EventFrame (s.badInRow p) := by
  unfold State.badInRow
  refine .trans (updPort s p fun ps => { ps with consecBad := ps.consecBad + 1 }) ?_
  dsimp only
  split
  · exact linkLoss _ p
  · exact refl _

theorem messageFrame (s : State) (p : Port) {f : State → State} (h : ∀ s : State, s.EventFrame (f s)) :
    s.EventFrame (s.messageFrame p f) := by
  unfold State.messageFrame
  split
  · exact (updPort s p _).trans (h _)
  · exact latchBoth s p .protocol .protocol
  · exact updPort s p _
  · exact refl s
  · exact refl s
  · exact refl s
  · exact refl s

theorem takePark (s : State) (p : Port) : s.EventFrame (s.takePark p) := by
  unfold State.takePark
  split
  · exact (updPort s p _).trans (offer _ p _)
  · split
    · exact refl s
    · exact offer s p _

theorem takeWake (s : State) (p : Port) : s.EventFrame (s.takeWake p) := (setLink s p .up).trans (offer _ p _)

theorem handPlace (s : State) (p : Port) : s.EventFrame (s.handPlace p) := by
  unfold State.handPlace
  split
  · exact refl s
  · rename_i o rest _
    refine .trans (((updPort s p PortState.dropWaiting).trans (place _ p o)).trans ?_) (settle _)
    unfold State.followPlacing
    split
    · exact examineHeads _ p
    · exact takeReleases _ p
    · exact refl _
    · exact refl _
    · exact refl _

theorem sent (s : State) (p : Port) : s.EventFrame (s.sent p) :=
  ((updPort s p _).trans (handPlace _ p)).trans (keepTrain _ p)

end State.EventFrame

end Sys2Proof.Machine
end

