-- ==== Sys2Proof/Laws/Table.lean ====
section
/-! SUPPORT. The directory's sets and the slots under the primitive changes: membership, the forms of Safety.lean, counts. -/

namespace Sys2Proof.Machine

/-! ## Sets -/

theorem State.mem_entries {s : State} {e : Entry} : e ∈ s.entries ↔ ∃ x ∈ s.dir, e ∈ x.2 := by
  simp [State.entries, List.mem_flatMap]

theorem State.mem_entries_of_set {s : State} {set : Nat} {e : Entry} (h : e ∈ s.setEntries set) : e ∈ s.entries := by
  unfold State.setEntries Store.read at h
  cases hf : Store.find s.dir set with
  | none =>
    rw [hf] at h
    exact absurd h List.not_mem_nil
  | some es =>
    rw [hf] at h
    exact State.mem_entries.mpr ⟨(set, es), Store.mem_of_find hf, h⟩

theorem State.mem_entries_putSet {s : State} {set : Nat} {es : List Entry} {e : Entry}
    (h : e ∈ (s.putSet set es).entries) : e ∈ es ∨ e ∈ s.entries := by
  obtain ⟨x, hx, he⟩ := State.mem_entries.mp h
  rcases Store.mem_write hx with ⟨hx, _⟩ | hx
  · subst hx
    exact .inl he
  · exact .inr (State.mem_entries.mpr ⟨x, hx, he⟩)

@[simp] theorem State.setEntries_putSet_self (s : State) (set : Nat) (es : List Entry) :
    (s.putSet set es).setEntries set = es := Store.read_write_self _ _ _ _

theorem State.setEntries_putSet_ne (s : State) {set other : Nat} (es : List Entry) (h : other ≠ set) :
    (s.putSet set es).setEntries other = s.setEntries other := Store.read_write_ne _ _ _ h

/-- The entries of a set stand in the set of their line. -/
theorem State.SetForm.of_setEntries {s : State} (h : s.SetForm) {set : Nat} {e : Entry} (he : e ∈ s.setEntries set) :
    setOf e.line = set := by
  unfold State.setEntries Store.read at he
  cases hf : Store.find s.dir set with
  | none =>
    rw [hf] at he
    exact absurd he List.not_mem_nil
  | some es =>
    rw [hf] at he
    exact h.sets (set, es) (Store.mem_of_find hf) e he

/-- A listed entry is found in the set of its line. -/
theorem State.SetForm.mem_setEntries {s : State} (h : s.SetForm) {e : Entry} (he : e ∈ s.entries) :
    e ∈ s.setEntries (setOf e.line) := by
  obtain ⟨x, hx, hex⟩ := State.mem_entries.mp he
  have hs := h.sets x hx e hex
  have hf := Store.find_of_mem h.rising hx
  unfold State.setEntries Store.read
  rw [hs, hf]
  exact hex

theorem State.SetForm.putSet {s : State} (h : s.SetForm) {set : Nat} {es : List Entry}
    (hs : ∀ e ∈ es, setOf e.line = set) : (s.putSet set es).SetForm := by
  refine ⟨Store.rising_write h.rising _ _ _, ?_⟩
  intro x hx e he
  rcases Store.mem_write hx with ⟨hx, _⟩ | hx
  · subst hx
    exact hs e he
  · exact h.sets x hx e he

/-! ## Slots -/

theorem State.mem_of_txn {s : State} {n : Nat} {t : Txn} (h : s.txn n = some t) : (n, t) ∈ s.txns := Store.mem_of_find h

@[simp] theorem State.txn_putTxn_self (s : State) (n : Nat) (t : Txn) : (s.putTxn n t).txn n = some t :=
  Store.find_put_self _ _ _

theorem State.txn_putTxn_ne (s : State) {m n : Nat} (t : Txn) (h : m ≠ n) : (s.putTxn n t).txn m = s.txn m :=
  Store.find_put_ne _ _ h

theorem Store.countP_put_same {α : Type} {m : Store α} (h : m.Rising) {k : Nat} {v w : α} (hf : m.find k = some w)
    (P : Nat × α → Bool) (hP : P (k, v) = P (k, w)) : (m.put k v).countP P = m.countP P := by
  induction m with
  | nil => simp [Store.find] at hf
  | cons x rest ih =>
    obtain ⟨j, u⟩ := x
    have hc := List.pairwise_cons.mp h
    unfold Store.find at hf
    split at hf
    · rename_i hj
      subst hj
      simp only [Option.some.injEq] at hf
      subst hf
      unfold Store.put
      simp [List.countP_cons, hP]
    · rename_i hj
      have hlt : j < k := hc.1 (k, w) (Store.mem_of_find hf)
      unfold Store.put
      rw [if_neg (by omega), if_neg (by omega)]
      simp [List.countP_cons, ih hc.2 hf]

theorem Store.countP_put_le {α : Type} (m : Store α) (k : Nat) (v : α) (P : Nat × α → Bool) :
    (m.put k v).countP P ≤ m.countP P + (if P (k, v) then 1 else 0) := by
  induction m with
  | nil => simp [Store.put, List.countP_cons]
  | cons x rest ih =>
    obtain ⟨j, u⟩ := x
    unfold Store.put
    split
    · simp [List.countP_cons]
    · split
      · rename_i hk
        simp only [List.countP_cons]
        omega
      · simp only [List.countP_cons]
        omega

theorem Store.countP_erase_le {α : Type} (m : Store α) (k : Nat) (P : Nat × α → Bool) :
    (m.erase k).countP P ≤ m.countP P := List.Sublist.countP_le (List.filter_sublist)

/-! ## Changes that a transaction in flight may suffer -/

/-- A transaction's record keeps its tag, kind and line; it gains neither a live requester nor an open member, nor a port
awaited twice. -/
structure Txn.Ages (t u : Txn) : Prop where
  tag : u.tag = t.tag
  kind : u.kind = t.kind
  line : u.line = t.line
  live : ∀ p, u.isLiveOf p = true → t.isLiveOf p = true
  members : ∀ m ∈ u.awaited, m.state.isOpen = true → ∃ n ∈ t.awaited, n.state.isOpen = true ∧ n.port = m.port
  once : (t.awaited.map fun m => m.port).Nodup → (u.awaited.map fun m => m.port).Nodup

theorem Txn.Ages.refl (t : Txn) : Txn.Ages t t := 
  ⟨rfl, rfl, rfl, fun _ h => h, fun m hm h => ⟨m, hm, h, rfl⟩, id⟩

/-- A change of one member that opens none ages the transaction. -/
theorem Txn.ages_updMember (t : Txn) (p : Port) (f : Member → Member) (hp : ∀ m, (f m).port = m.port)
    (ho : ∀ m, (f m).state.isOpen = true → m.state.isOpen = true) : Txn.Ages t (t.updMember p f) := by
  refine ⟨rfl, rfl, rfl, fun _ h => h, ?_, ?_⟩
  · intro m hm h
    obtain ⟨n, hn, hnm⟩ := List.mem_map.mp hm
    split at hnm
    · subst hnm
      exact ⟨n, hn, ho n h, (hp n).symm⟩
    · subst hnm
      exact ⟨n, hn, h, rfl⟩
  · intro h
    have ports : ((t.updMember p f).awaited.map fun m => m.port) = t.awaited.map fun m => m.port := by
      simp only [Txn.updMember, List.map_map]
      refine List.map_congr_left fun m _ => ?_
      show (if m.port = p then f m else m).port = m.port
      split
      · exact hp m
      · rfl
    rw [ports]
    exact h

/-- The Transaction Table keeps its form when a transaction in flight ages. -/
theorem State.TableForm.age {s : State} (h : s.TableForm) {n : Nat} {t u : Txn} (ht : s.txn n = some t)
    (ha : Txn.Ages t u) : (s.putTxn n u).TableForm := by
  have hm := State.mem_of_txn ht
  refine ⟨Store.rising_put h.rising n u, ?_, h.seqs, ?_, ?_⟩
  · intro e he
    rcases Store.mem_put he with he | he
    · subst he
      exact h.slots (n, t) hm
    · exact h.slots e he
  · intro e he
    rcases Store.mem_put he with he | he
    · subst he
      show u.tag = _
      rw [ha.tag]
      exact h.tags _ hm
    · exact h.tags e he
  · have hc : (s.putTxn n u).sweepsInFlight = s.sweepsInFlight :=
      Store.countP_put_same h.rising ht (fun e => e.2.kind == .sweep) (by simp [ha.kind])
    rw [hc]
    exact h.sweeps

/-- The Transaction Table keeps its form when a transaction goes. -/
theorem State.TableForm.erase {s : State} (h : s.TableForm) (n : Nat) :
    State.TableForm { s with txns := Store.erase s.txns n } := by
  refine ⟨Store.rising_erase h.rising n, ?_, h.seqs, ?_, ?_⟩
  · intro e he
    exact h.slots e (Store.mem_erase.mp he).1
  · intro e he
    exact h.tags e (Store.mem_erase.mp he).1
  · exact le_trans (Store.countP_erase_le _ _ _) h.sweeps

/-- The links' form is kept when a transaction in flight ages. -/
theorem State.LinkForm.age {s : State} (h : s.LinkForm) {n : Nat} {t u : Txn} (ht : s.txn n = some t)
    (ha : Txn.Ages t u) : (s.putTxn n u).LinkForm := by
  have hm := State.mem_of_txn ht
  refine ⟨⟨Store.rising_put h.table.1 n u, ?_⟩, ⟨h.sets.rising, h.sets.sets⟩, h.holders, ?_, ?_, ?_, h.silent⟩
  · intro e he
    rcases Store.mem_put he with he | he
    · subst he
      exact h.table.2 (n, t) hm
    · exact h.table.2 e he
  · intro x hx p hp
    rcases Store.mem_put hx with hx | hx
    · subst hx
      exact h.requesters _ hm p (ha.live p hp)
    · exact h.requesters x hx p hp
  · intro x hx m hmem ho
    rcases Store.mem_put hx with hx | hx
    · subst hx
      obtain ⟨m', hm', ho', hp'⟩ := ha.members m hmem ho
      have := h.members _ hm m' hm' ho'
      rw [hp'] at this
      exact this
    · exact h.members x hx m hmem ho
  · intro x hx
    rcases Store.mem_put hx with hx | hx
    · subst hx
      exact ha.once (h.once _ hm)
    · exact h.once x hx

/-- The links' form is kept when a transaction goes. -/
theorem State.LinkForm.erase {s : State} (h : s.LinkForm) (n : Nat) :
    State.LinkForm { s with txns := Store.erase s.txns n } := by
  refine ⟨⟨Store.rising_erase h.table.1 n, ?_⟩, ⟨h.sets.rising, h.sets.sets⟩, h.holders, ?_, ?_, ?_, h.silent⟩
  · intro e he
    exact h.table.2 e (Store.mem_erase.mp he).1
  · intro x hx
    exact h.requesters x (Store.mem_erase.mp hx).1
  · intro x hx
    exact h.members x (Store.mem_erase.mp hx).1
  · intro x hx
    exact h.once x (Store.mem_erase.mp hx).1

/-- The links' form is kept when a set is replaced by entries of that set whose holders are UP. -/
theorem State.LinkForm.putSet {s : State} (h : s.LinkForm) {set : Nat} {es : List Entry}
    (hs : ∀ e ∈ es, setOf e.line = set) (hu : ∀ e ∈ es, ∀ p, e.holding.names p = true → s.isUp p = true) :
    (s.putSet set es).LinkForm := by
  refine ⟨h.table, h.sets.putSet hs, ?_, h.requesters, h.members, h.once, h.silent⟩
  intro e he p hp
  rcases State.mem_entries_putSet he with he | he
  · exact hu e he p hp
  · exact h.holders e he p hp

end Sys2Proof.Machine
end

