-- ==== Sys2Proof/Laws/Time.lean ====
section
/-! SUPPORT. What the passing of time does: which timer is overdue, and what a timer's command does where no other timer's
latest moment comes first, and where one does. -/

namespace Sys2Proof.Machine

/-! ## The earliest timer -/

/-- The earliest of some moments is one of them. -/
theorem earliest_mem {l : List (Nat × Timer)} {x : Nat × Timer} (h : earliest l = some x) : x ∈ l := by
  induction l generalizing x with
  | nil => simp [earliest] at h
  | cons a l ih =>
    unfold earliest at h
    split at h
    · simp_all
    · rename_i y hy
      split at h <;> simp_all

/-- No moment comes before the earliest. -/
theorem earliest_le {l : List (Nat × Timer)} {x y : Nat × Timer} (h : earliest l = some x) (hy : y ∈ l) : x.1 ≤ y.1 := by
  induction l generalizing x with
  | nil => simp at hy
  | cons a l ih =>
    unfold earliest at h
    split at h
    · rename_i hn
      cases l with
      | nil => simp_all
      | cons b l =>
        unfold earliest at hn
        split at hn
        · simp at hn
        · split at hn <;> simp at hn
    · rename_i z hz
      rcases List.mem_cons.mp hy with rfl | hy
      · split at h
        · cases h; omega
        · cases h; omega
      · have := ih hz hy
        split at h
        · cases h; exact this
        · cases h; omega

/-- Some moments have no earliest only where there are none. -/
theorem earliest_eq_none {l : List (Nat × Timer)} : earliest l = none ↔ l = [] := by
  cases l with
  | nil => simp [earliest]
  | cons a l =>
    unfold earliest
    split
    · simp
    · split <;> simp

/-- No timer is overdue at `t` where every latest moment is `t` or later. -/
theorem State.overdue_eq_none {s : State} {t : Nat} : s.overdue t = none ↔ ∀ x ∈ s.timers, t ≤ x.1 := by
  simp [State.overdue, earliest_eq_none, List.filter_eq_nil_iff]

/-- The overdue timer runs, its latest moment comes before `t`, and no other timer's comes before it. -/
theorem State.overdue_spec {s : State} {t : Nat} {x : Nat × Timer} (h : s.overdue t = some x) :
    x ∈ s.timers ∧ x.1 < t ∧ ∀ y ∈ s.timers, x.1 ≤ y.1 := by
  have hm := List.mem_filter.mp (earliest_mem h)
  have hx : x.1 < t := by simpa using hm.2
  refine ⟨hm.1, hx, fun y hy => ?_⟩
  by_cases c : y.1 < t
  · exact earliest_le h (List.mem_filter.mpr ⟨hy, by simpa using c⟩)
  · omega

/-! ## The time moves on -/

/-- Where no timer's latest moment comes before `t`, only the time changes. -/
theorem State.passTime_of_none {s : State} {t : Nat} (n : Nat) (h : s.overdue t = none) :
    State.passTime (n + 1) t s = s.atLeast t := by
  simp [State.passTime, h]

/-- A timer whose latest moment comes before `t` runs out at it, and the time moves on from there. -/
theorem State.passTime_of_some {s : State} {t : Nat} {x : Nat × Timer} (n : Nat) (h : s.overdue t = some x) :
    State.passTime (n + 1) t s = State.passTime n t ((s.atLeast x.1).runOut x.2) := by
  simp [State.passTime, h]

/-- The moment of a timer does not depend on the time. -/
theorem State.moment_atLeast (s : State) (t : Nat) (x : Timer) : (s.atLeast t).moment x = s.moment x := by cases x <;> rfl

/-- A timer's command where no other timer's latest moment comes first. -/
theorem State.timerCommand_of_none {s : State} {x : Timer} {d : Nat} (hm : s.moment x = some d) (h : s.overdue d = none) :
    s.timerCommand x = (s.atLeast d).runOut x := by
  have hd : d ≤ (s.atLeast d).now := Nat.le_max_right ..
  simp [State.timerCommand, hm, State.passTime_of_none (n := 4095) (h := h), Config.timerBound, State.runOutDue,
    State.moment_atLeast, hd]

/-- The command of a timer that does not run changes nothing. -/
theorem State.timerCommand_of_stopped {s : State} {x : Timer} (hm : s.moment x = none) : s.timerCommand x = s := by
  simp [State.timerCommand, hm]

/-- A timer's command where one other timer's latest moment comes first: that one runs out first. -/
theorem State.timerCommand_of_some {s : State} {x : Timer} {d : Nat} {y : Nat × Timer} (hm : s.moment x = some d)
    (h : s.overdue d = some y) (hn : ((s.atLeast y.1).runOut y.2).overdue d = none)
    (hx : ((s.atLeast y.1).runOut y.2).moment x = some d) :
    s.timerCommand x = ((s.atLeast y.1).runOut y.2).timerCommand x := by
  rw [State.timerCommand_of_none hx hn]
  have hd : d ≤ (((s.atLeast y.1).runOut y.2).atLeast d).now := Nat.le_max_right ..
  simp [State.timerCommand, hm, Config.timerBound, State.passTime_of_some (n := 4095) (h := h),
    State.passTime_of_none (n := 4094) (h := hn), State.runOutDue, State.moment_atLeast, hx, hd]

end Sys2Proof.Machine
end

