-- ==== Sys2Proof/Tests/Slice0.lean ====
section
/-! SUPPORT. Tests: ill-formed commands, frames and transfers written out by hand, single steps on small states, and for
every statement with hypotheses a state that meets them, each clause at its boundary. -/

namespace Sys2Proof.Tests

open Sys2Proof Sys2Proof.Machine

/-! ## Small states -/

/-- A port in UP with nothing queued. -/
def up : PortState := { PortState.reset true with enable := true, link := .up }

/-- A hub after initialisation, its four ports in UP. -/
def hub : State := { State.reset with init := .ready, ports := PerPort.const up }

/-- The hub with another Port Controller at P0. -/
def hubWith (ps : PortState) : State := { hub with ports := { hub.ports with p0 := ps } }

/-- The hub with P0 in a link state, enabled unless DISABLED. -/
def hubIn (l : LinkState) : State := hubWith { up with link := l, enable := l != .disabled }

/-- The hub with one entry, of line 05AH in way 0. -/
def holding (h : Holding) (busy : Option Nat) : State := { hub with dir := [(0x5A, [⟨0x05A, 0, h, busy⟩])] }

/-- A member awaited from a port, waiting, its deadline at 256 µs. -/
def member (p : Port) : Member := ⟨p, .invalidate, .waiting, false, some 256⟩

/-- A FETCH_OWN of P0 on line 05AH in slot T0 that awaits the members. -/
def fetch (ms : List Member) : Txn := ⟨0x01, .fetchOwn, 0x05A, some 2, some .P0, .recalling, false, ms, none, false⟩

/-- P1 owns line 05AH and is recalled for P0. -/
def recalling (ms : List Member) : State :=
  { holding (.owned .P1 none) (some 0) with txns := [(0, fetch ms)], seqs := [(0, 1)], lastAdmitted := .P0 }

/-- The words 1 to 8. -/
def words : LineData := ⟨1, 2, 3, 4, 5, 6, 7, 8⟩

/-- The fields of the state after a command. -/
def after (c : Instr) (s : State) : State :=
  match exec c s with
  | .next t => t
  | .fault _ => s
  | .refused _ => s

theorem hub_open (p : Port) : hub.Open p := by cases p <;> exact ⟨rfl, by decide, rfl⟩

/-- The one timer of the recalled line is P1's deadline, which may run out until 272 µs. -/
theorem recalling_noneBefore (b : Bool) : (recalling [{ member .P1 with second := b }]).NoneBefore 256 := by
  have h : (recalling [{ member .P1 with second := b }]).timers = [(272, .recall 0 .P1)] := by cases b <;> decide
  intro x hx
  rw [h] at hx
  cases List.mem_singleton.mp hx
  decide

theorem recalling_linkForm (m : Member) : (recalling [m]).LinkForm := by
  refine ⟨⟨List.pairwise_singleton _ _, ?_⟩, ⟨List.pairwise_singleton _ _, ?_⟩, ?_, ?_, ?_, ?_, ?_⟩
  · intro e he
    cases List.mem_singleton.mp he
    exact (by decide : 0 < Config.slotCount)
  · intro x hx e he
    cases List.mem_singleton.mp hx
    cases List.mem_singleton.mp he
    decide
  · intro e _ p _
    cases p <;> rfl
  · intro x _ p _
    cases p <;> rfl
  · intro x _ n _ _
    cases n.port <;> rfl
  · intro x hx
    cases List.mem_singleton.mp hx
    exact List.nodup_singleton _
  · intro p h
    cases p <;> exact absurd h (show ¬ true = false by decide)

theorem recalling_directoryForm : (recalling [member .P1]).DirectoryForm := by
  have one : ∀ {P : Nat × Txn → Prop}, P (0, fetch [member .P1]) → ∀ x ∈ (recalling [member .P1]).txns, P x := by
    intro P hP x hx
    cases List.mem_singleton.mp hx
    exact hP
  refine ⟨⟨by decide, by decide⟩, ⟨by decide, by decide⟩, by decide, by decide, by decide, one fun _ => ⟨_, rfl, rfl⟩,
    one nofun, ?_, one rfl, one nofun, one nofun, one (fun h => absurd rfl h), ?_, fun p => by cases p <;> decide, one nofun⟩
  · intro e he n hn
    cases List.mem_singleton.mp he
    cases hn
    exact ⟨_, rfl, rfl⟩
  · intro p n hn
    cases p <;> exact absurd hn List.not_mem_nil

theorem hub_ready (p : Port) : hub.ReadyForRequest p := by cases p <;> exact ⟨hub_open _, rfl, rfl, rfl⟩

theorem hub_release (p : Port) : hub.ReadyForRelease p := by cases p <;> exact ⟨rfl, rfl, rfl, rfl⟩

theorem hub_calm : hub.Calm := ⟨rfl, by intro p; cases p <;> rfl, rfl⟩

theorem hub_silent : hub.Silent := by intro p; cases p <;> decide

theorem hub_linkForm : hub.LinkForm := by
  refine ⟨⟨List.Pairwise.nil, by decide⟩, ⟨List.Pairwise.nil, by decide⟩, ?_, ?_, by decide, by decide, hub_silent⟩
  · intro e h
    exact absurd h List.not_mem_nil
  · intro e h
    exact absurd h List.not_mem_nil

/-- No timer runs in the hub. -/
theorem hub_noneBefore (t : Nat) : hub.NoneBefore t := by
  intro x h
  rw [show hub.timers = [] by decide] at h
  exact absurd h List.not_mem_nil

theorem hub_directoryForm : hub.DirectoryForm := by
  have dir : hub.dir = [] := rfl
  have txns : hub.txns = [] := rfl
  have entries : hub.entries = [] := rfl
  refine ⟨⟨List.Pairwise.nil, by decide⟩, ⟨List.Pairwise.nil, by decide⟩, ?_, ?_, List.nodup_nil, ?_, ?_, ?_, ?_, ?_, ?_, ?_,
    ?_, ?_, ?_⟩
  case refine_11 => intro p; cases p <;> decide
  case refine_10 =>
    intro p n h
    cases p <;> exact absurd h List.not_mem_nil
  all_goals
    simp only [dir, txns, entries]
    intro x h
    exact absurd h List.not_mem_nil

/-- One free entry, and no transaction. -/
theorem holding_directoryForm (h : Holding) : (holding h none).DirectoryForm := by
  have one : ∀ {P : Nat × List Entry → Prop}, P (0x5A, [⟨0x05A, 0, h, none⟩]) → ∀ x ∈ (holding h none).dir, P x := by
    intro P hP x hx
    cases List.mem_singleton.mp hx
    exact hP
  have none_ : ∀ {P : Nat × Txn → Prop}, ∀ x ∈ (holding h none).txns, P x := fun x hx => absurd hx List.not_mem_nil
  have dir : (holding h none).SetForm := by
    refine ⟨List.pairwise_singleton _ _, one fun e he => ?_⟩
    cases List.mem_singleton.mp he
    rfl
  refine ⟨dir, ⟨List.Pairwise.nil, none_⟩, one ⟨by simp, by simp, by simp⟩, one (by simp), List.nodup_nil, none_, none_, ?_,
    none_, none_, none_, none_, ?_, ?_, none_⟩
  · intro e he n hn
    cases List.mem_singleton.mp he
    exact absurd hn nofun
  · intro p n hn
    cases p <;> exact absurd hn List.not_mem_nil
  · intro p
    have le : (holding h none).lockCount p ≤ 1 := List.countP_le_length
    have zero : (holding h none).lockFetches p = 0 := rfl
    rw [zero]
    exact le_trans le (by decide)

theorem holding_open (h : Holding) (b : Option Nat) (p : Port) : (holding h b).Open p := by
  cases p <;> exact ⟨rfl, (hub_open _).room, rfl⟩

theorem holding_ready (h : Holding) (b : Option Nat) (p : Port) : (holding h b).ReadyForRequest p := by
  cases p <;> exact ⟨holding_open h b _, rfl, rfl, rfl⟩

theorem holding_release (h : Holding) (b : Option Nat) (p : Port) : (holding h b).ReadyForRelease p := by
  cases p <;> exact ⟨rfl, rfl, rfl, rfl⟩

theorem holding_calm (h : Holding) (b : Option Nat) : (holding h b).Calm := ⟨rfl, by intro p; cases p <;> rfl, rfl⟩

/-! ## Well-formedness and decoding -/

/-- A write to GCTL with SOFT_RESET set is not a REGISTER_WRITE (R175). -/
theorem test_illFormed_gctl : (Instr.registerWrite .gctl 0x8000).wellFormed = false := by decide

theorem test_wellFormed_gctl : (Instr.registerWrite .gctl 0x0001).wellFormed = true := by decide

theorem test_wellFormed_highBit : (Instr.registerWrite .prot0 0x8000).wellFormed = true := by decide

/-- The table gives no row bits, so no word spells a command. -/
theorem test_decode_none (nbits w : Nat) : Sys2Proof.decodeTableWord nbits w = none := rfl

theorem test_withFetchWord (s : State) (nbits w : Nat) : s.withFetchWord nbits w = s := rfl

/-! ## Frames (R178 to R180) and transfers (R165, R181) -/

/-- The CRC of the ASCII digits 1 to 9 under R180's polynomial and start value. -/
theorem test_crc_digits : crc [0x31, 0x32, 0x33, 0x34, 0x35, 0x36, 0x37, 0x38, 0x39] = 0x29B1#16 := by decide +kernel

/-- RD_SHARED of line 0123H, word W5: kind 01H, the line high byte first, the word in byte 3. -/
theorem test_frame_rdShared :
    readFrame .P2 (framed [0x01, 0x01, 0x23, 0x05, 0x00, 0x00]) = .rdShared .P2 0x0123 5 := by decide +kernel

/-- RECALL_ACK of line 005AH, tag 31H, CLEAN: the tag in byte 3, the answer in byte 5. -/
theorem test_frame_recallAck :
    readFrame .P1 (framed [0x13, 0x00, 0x5A, 0x31, 0x00, 0x02]) = .recallAck .P1 0x005A 0x31 .clean := by decide +kernel

/-- A frame with one wrong bit is bad; one of an unknown kind is malformed. -/
theorem test_frame_bad :
    readFrame .P0 [0x22, 0, 0, 0, 0, 1, highByte (crc [0x22, 0, 0, 0, 0, 0]), lowByte (crc [0x22, 0, 0, 0, 0, 0])] =
      .badFrame .P0 := by decide +kernel

theorem test_frame_malformed : readFrame .P0 (framed [0x7F, 0, 0, 0, 0, 0]) = .malformedFrame .P0 := by decide +kernel

/-- A RECALL's bytes: kind 44H, line, tag, mode. -/
theorem test_frame_recall : (Msg.recall 0x123 0x31 .downgrade).body = [0x44, 0x01, 0x23, 0x31, 0x01, 0x00] := by decide

/-- A word is sent with its lowest-addressed byte, bits 7:0, first. -/
theorem test_frame_payload : payload [0x11223344] = [0x44, 0x33, 0x22, 0x11] := by decide

/-- A write to PEN_SET (index 08H) of 000FH, and a write of 8001H to GCTL, which is the soft reset. -/
theorem test_transfer_penSet : transferCommands 24 0x88000F = [.portEnableSet 15] := by decide

theorem test_transfer_softReset : transferCommands 24 0x848001 = [.softReset true] := by decide

/-- A read has no effect but for the read-clear registers. -/
theorem test_transfer_read : transferCommands 24 0x020000 = [] ∧ transferCommands 24 0x010000 = [.nstatRead] := by decide

theorem test_transfer_cut : transferCommands 23 0x88000F = [] := by decide

/-! ## Single steps -/

/-- The reset values of registers with one: IDENT, GCTL, RTO, LKT, TPAT (Table 11-4). -/
theorem test_reset_registers :
    State.reset.readReg 0x00 = 0x7E42 ∧ State.reset.readReg 0x04 = 0x0001 ∧ State.reset.readReg 0x05 = 0x0010 ∧
      State.reset.readReg 0x06 = 0x0014 ∧ State.reset.readReg 0x07 = 0x009A := by decide +kernel

/-- From reset: initialisation, an enabled port with signal, and TRAINING with one TRAIN placed (R10, R147, R148, R151). -/
theorem test_bringUp :
    let s := after (.signalPresent .P1) (after (.portEnableSet 2) (after .initDone (after .initialisationStart State.reset)))
    (s.port .P1).link = .training ∧ (s.port .P1).outbound = [.train 0x9A] ∧ s.nstat = 0x0400 := by decide +kernel

/-- An EVICT frees the one holder's entry and is answered (R24, R92). -/
theorem test_evict_frees :
    (after (.evict .P0 0x005A) (holding (.owned .P0 none) none)).dir = [] ∧
      ((after (.evict .P0 0x005A) (holding (.owned .P0 none) none)).port .P0).outbound = [.done 0x005A .evict] := by
  decide +kernel

/-- A WRITEBACK stores its words with the lowest byte first (R8, R88, R178). -/
theorem test_writeback_stores :
    let s := after (.writeback .P0 0x005A false ⟨0x11223344, 0, 0, 0, 0, 0, 0, 0x55⟩) (holding (.owned .P0 none) none)
    s.sma.bytes = [(0xB40, 0x44), (0xB41, 0x33), (0xB42, 0x22), (0xB43, 0x11), (0xB5C, 0x55)] ∧ s.dir = [] := by
  decide +kernel

/-- An RD_OWN of an unlisted line fills at once, in wrap order (R4, R74). -/
theorem test_rdOwn_fills :
    ((after (.rdOwn .P0 0x005A 3) hub).port .P0).outbound = [.fill 0x05A 3 .owned .good [0, 0, 0, 0, 0, 0, 0, 0]] ∧
      (after (.rdOwn .P0 0x005A 3) hub).dir = [(0x5A, [⟨0x05A, 0, .owned .P0 none, none⟩])] := by decide +kernel

/-- The recalled owner's DATA reaches the requester (R57, R76, R95). -/
theorem test_recallAck_fills :
    ((after (.recallAck .P1 0x005A 0x01 (.data words)) (recalling [member .P1])).port .P0).outbound =
      [.fill 0x05A 2 .owned .good [3, 4, 5, 6, 7, 8, 1, 2]] := by decide +kernel

/-- A second deadline faults the recalled port, and its line is poisoned and granted (R28, R55, R61, R159). -/
theorem test_recallTimeout_faults :
    let s := after (.recallTimeout 0 .P1) (recalling [{ member .P1 with second := true }])
    (s.port .P1).link = .faulted ∧ s.sma.cond 0x05A = .poisoned ∧ s.txns = [] ∧ s.nstat = 0x0084 := by decide +kernel

/-- One wrong data bit: the word read is corrected, CECNT is 1 and CORRECTED is latched (R5, R9). -/
theorem test_smRead_corrects :
    let s := after (.smRead false) { hub with
      sma := { hub.sma with bytes := [(0, 1)], errors := [(0, ⟨1, 0, 0⟩)] }
      insp := { Insp.reset with addr := 0 } }
    s.sma.bytes = [] ∧ s.sma.errors = [] ∧ s.sma.cecnt = 1 ∧ s.nstat = 0x0200 ∧ s.insp.result = 0 := by decide +kernel

/-- Locks of 05AH due at 20 ms and of 05BH due at 1 ms: when the first expires, the second has expired at its latest moment,
and its owner is told before (R110, R111, log 4). -/
theorem test_lockExpiry_passesNone :
    let s := after (.lockExpiry 0x05A) { hub with
      dir := [(0x5A, [⟨0x05A, 0, .owned .P1 (some 20000), none⟩]), (0x5B, [⟨0x05B, 0, .owned .P0 (some 1000), none⟩])] }
    s.now = 20000 ∧ (s.port .P0).outbound = [.lockBroken 0x05B] ∧ s.lockerOf 0x05B = none ∧ s.lockerOf 0x05A = none ∧
      ((after (.unlock .P0 0x005B) s).port .P0).outbound = [.lockBroken 0x05B, .refuse 0x005B .unlock .notLocked] := by
  decide +kernel

/-- A soft reset while P1's line is recalled for P0: the grant that the retirement of P0 prevents makes no line read, so the
stored error stays, and no watch entry is hit; the line P1 owned is POISONED (R12, R63, R145, log 23). -/
theorem test_softReset_keepsArrayAndWatch :
    let s := { recalling [member .P1] with
      sma := { hub.sma with errors := [(0x168, ⟨1, 0, 0⟩)] }, watch := { hub.watch with e0 := ⟨0x05A, 0x1BD8⟩ } }
    (after (.softReset true) s).sma.errors = [(0x168, ⟨1, 0, 0⟩)] ∧ (after (.softReset true) s).watch = s.watch ∧
      (after (.softReset true) s).sma.cond 0x05A = .poisoned := by decide +kernel

/-- P0 shares line 05AH and is recalled for P1's RD_OWN. -/
def sharerRecalled : State :=
  { holding (.shared ⟨true, false, false, false⟩) (some 0) with
    txns := [(0, { fetch [member .P0] with requester := some .P1 })], seqs := [(0, 1)], lastAdmitted := .P1 }

/-- A soft reset retires P0 first: its recall ends, the line is granted to P1, and P1's retirement poisons it; with no
transaction in flight the shared line stays GOOD (R29, R61, R63, R163). -/
theorem test_softReset_poisonsALateGrant :
    (after (.softReset true) sharerRecalled).sma.cond 0x05A = .poisoned ∧
      (after (.softReset true) { sharerRecalled with txns := [] }).sma.cond 0x05A = .good := by decide +kernel

theorem sharerRecalled_linkForm : sharerRecalled.LinkForm := by
  refine ⟨⟨by decide, by decide⟩, ⟨by decide, by decide⟩, ?_, ?_, by decide, by decide, fun p => by cases p <;> decide⟩
  all_goals
    intro e _ p _
    cases p <;> rfl

theorem sharerRecalled_directoryForm : sharerRecalled.DirectoryForm := by
  have one : ∀ {P : Nat × Txn → Prop}, P (0, { fetch [member .P0] with requester := some .P1 }) →
      ∀ x ∈ sharerRecalled.txns, P x := by
    intro P hP x hx
    cases List.mem_singleton.mp hx
    exact hP
  refine ⟨⟨by decide, by decide⟩, ⟨by decide, by decide⟩, by decide, by decide, by decide, one fun _ => ⟨_, rfl, rfl⟩,
    one nofun, ?_, one rfl, one nofun, one nofun, one (fun h => absurd rfl h), ?_, fun p => by cases p <;> decide, one nofun⟩
  · intro e he n hn
    cases List.mem_singleton.mp he
    cases hn
    exact ⟨_, rfl, rfl⟩
  · intro p n hn
    cases p <;> exact absurd hn List.not_mem_nil

/-- MDOUT before, in and after a transfer, and while RESET_N is low (R165). -/
theorem test_mdout :
    let s := after (.capture 0x00) hub
    hub.mdout none = none ∧ hub.mdout (some 0) = some false ∧ s.mdout (some 7) = some false ∧ s.mdout (some 8) = some false ∧
      s.mdout (some 9) = some true ∧ s.mdout (some 23) = some false ∧ s.mdout (some 22) = some true ∧ s.mdout none = none ∧
      State.reset.mdout (some 9) = none := by decide +kernel

/-- A sweep of all ports recalls the owner of the one line and waits for it (R122, R123). -/
theorem test_sweepAll_recalls :
    let s := after .sweepAll (holding (.owned .P2 none) none)
    s.sweep.activity = .closing ∧ (s.port .P2).outbound = [.recall 0x05A 0x01 .invalidate] := by decide +kernel

/-! ## Witnesses: the hypotheses of the statements, the queue and the resets -/

theorem test_meets_StepWithNoCommandLetsTimePass :
    hub.pending = [] ∧ hub.NoneBefore (hub.now + 1) ∧ hub.due = none ∧
      State.due { State.reset with init := .initialising 0, now := 199 } = none ∧
      State.due { State.reset with init := .initialising 0, now := 200 } = some .initDone ∧
      State.due { recalling [member .P1] with now := 271 } = none ∧
      State.due { recalling [member .P1] with now := 272 } = some (.recallTimeout 0 .P1) ∧
      State.due { holding (.owned .P1 (some 20000)) none with now := 20016 } = some (.lockExpiry 0x05A) ∧
      State.due { hubWith { up with link := .qualify, qualifyStart := some 0 } with now := 2016 } = some (.helloLimit .P0) :=
  ⟨rfl, hub_noneBefore _, by decide +kernel⟩

theorem test_meets_InitialisationClearsTheArrayAndReleasesTheLinks :
    State.reset.init = .resetLow ∧ State.Silent { State.reset with init := .initialising 0 } := by
  refine ⟨rfl, ?_⟩
  intro p
  cases p <;> decide

/-- One line owned by a port in UP, with a transaction in flight on it; a port that is DISABLED, and one PARKED; and a
sharer recalled for a port that is retired after it. -/
theorem test_meets_SoftResetClearsWhatTheTablesSay :
    hub.init ≠ .resetLow ∧ (recalling [member .P1]).SetForm ∧ (recalling [member .P1]).txns ≠ [] ∧
      ((holding (.owned .P1 none) none).DirectoryForm ∧ (holding (.owned .P1 none) none).ownerOf 0x05A = some .P1) ∧
      ((hubIn .disabled).port .P0).link = .disabled ∧ ((hubIn .parked).port .P0).link = .parked ∧
      (sharerRecalled.DirectoryForm ∧ sharerRecalled.LinkForm ∧ sharerRecalled.Open .P1 ∧
        sharerRecalled.txns = [(0, { fetch [member .P0] with requester := some .P1 })] ∧
        sharerRecalled.lookup 0x05A = some ⟨0x05A, 0, .shared ⟨true, false, false, false⟩, some 0⟩ ∧
        Txn.allAnswered (fetch [member .P0]) = false ∧
        ∀ m ∈ [member .P0], m.state ≠ .answered → m.port.number < Port.P1.number) :=
  ⟨by decide, ⟨by decide, by decide⟩, by decide, ⟨holding_directoryForm _, by decide⟩, rfl, rfl, sharerRecalled_directoryForm,
    sharerRecalled_linkForm, ⟨rfl, by decide, rfl⟩, rfl, by decide, by decide, by decide⟩

/-! ## Witnesses: link events -/

theorem test_meets_SignalChangesMoveThePort :
    (∃ s : State, (s.port .P0).link = .down ∧ s.Silent) ∧ ((hubIn .up).port .P0).link ≠ .down ∧
      ((hubIn .training).port .P0).link = .training ∧ ((hubIn .qualify).port .P0).link = .qualify ∧
      ((hubIn .parked).port .P0).link = .parked ∧ ((hubIn .faulted).port .P0).link = .faulted := by
  refine ⟨⟨hubIn .down, rfl, ?_⟩, by decide, rfl, rfl, rfl, rfl⟩
  intro p
  cases p <;> decide

/-- P0 in UP, its consecutive count 3, its release queue at 8; every port named by a write; and P1 recalled for the second
time. -/
theorem test_meets_APortThatLeavesUpIsRetired :
    hub.LinkForm ∧ (hub.port .P0).link = .up ∧ hub.init ≠ .resetLow ∧
      (∃ s : State, s.LinkForm ∧ (s.port .P0).link = .up ∧ (s.port .P0).consecBad = 3 ∧
        (s.port .P0).releases.length = Config.releaseDepth) ∧
      (hub.DirectoryForm ∧ ∀ q : Port, (0xF : BitVec 4).getLsbD q.number = true ∧ (hub.port q).link = .up) ∧
      (releasePort (.recallAck .P0 0 0 (.data words)) = some .P0 ∧ releasePort (.writeback .P0 0 false words) = some .P0) ∧
      (∃ (s : State) (m : Member), s.LinkForm ∧ (s.port .P1).link = .up ∧ m.second = true ∧
        ∃ u d, s.runningMember (0 : BitVec 4).toNat .P1 = some (u, m, d) ∧ s.NoneBefore d) := by
  refine ⟨hub_linkForm, rfl, by decide, ⟨hubWith { up with consecBad := 3, releases := List.replicate 8 (.evict 0) }, ?_, rfl,
    rfl, rfl⟩, ⟨hub_directoryForm, ?_⟩, ⟨rfl, rfl⟩, ⟨recalling [{ member .P1 with second := true }],
    { member .P1 with second := true }, ?_, rfl, rfl, fetch [{ member .P1 with second := true }], 256, rfl, ?_⟩⟩
  · refine ⟨⟨List.Pairwise.nil, by decide⟩, ⟨List.Pairwise.nil, by decide⟩, ?_, ?_, by decide, by decide, ?_⟩
    · intro e h
      exact absurd h List.not_mem_nil
    · intro e h
      exact absurd h List.not_mem_nil
    · intro p
      cases p <;> decide
  · intro q
    cases q <;> decide
  · exact recalling_linkForm _
  · exact recalling_noneBefore _

theorem test_meets_BadAndMalformedFramesActByLinkState :
    ((hubIn .training).port .P0).link = .training ∧ ((hubIn .qualify).port .P0).link = .qualify ∧
      (((hubWith { up with consecBad := 2 }).port .P0).link = .up ∧ ((hubWith { up with consecBad := 2 }).port .P0).consecBad < 3) ∧
      (((hubWith { up with link := .parked, consecBad := 3 }).port .P0).link = .parked ∧
        ((hubWith { up with link := .parked, consecBad := 3 }).port .P0).consecBad = 3) := by decide

/-- A match count of 14, and of 15 with the TRAIN unsent. -/
theorem test_meets_SixteenMatchingEchoesEndTraining :
    (∃ s : State, (s.port .P0).link = .training ∧ (0x00 : Byte) ≠ s.tpat ∧ (0x9A : Byte) = s.tpat ∧
      (s.port .P0).matchCount < 15) ∧
      (∃ s : State, (s.port .P0).link = .training ∧ (0x9A : Byte) = s.tpat ∧ (s.port .P0).matchCount = 15 ∧
        (s.port .P0).outbound ≠ [] ∧ (∀ m ∈ (s.port .P0).outbound, m.isTrain = true) ∧ (s.port .P0).waiting = []) ∧
      ((hubIn .qualify).port .P0).link = .qualify ∧ ((hubIn .parked).port .P0).link = .parked :=
  ⟨⟨hubWith { up with link := .training, matchCount := 14 }, by decide⟩,
    ⟨hubWith { up with link := .training, matchCount := 15, outbound := [.train 0x9A] }, by decide⟩, rfl, rfl⟩

/-- The times 499 and 500 µs after the qualify start. -/
theorem test_meets_AgentHelloBringsTheLabel :
    (∃ s : State, (s.port .P0).link = .qualify ∧ (s.port .P0).qualifyStart = some 0 ∧ s.now < 0 + 500) ∧
      (∃ s : State, (s.port .P0).link = .qualify ∧ (s.port .P0).qualifyStart = some 0 ∧ 0 + 500 ≤ s.now) ∧
      (hub.port .P0).link = .up ∧ ((hubIn .parked).port .P0).link = .parked ∧ ((hubIn .training).port .P0).link = .training :=
  ⟨⟨{ hubWith { up with link := .qualify, qualifyStart := some 0 } with now := 499 }, by decide⟩,
    ⟨{ hubWith { up with link := .qualify, qualifyStart := some 0 } with now := 500 }, by decide⟩, rfl, rfl, rfl⟩

/-- A port in QUALIFY since 0 with a pending label, and one without; the other timer may run out until 516 or 2016 µs. -/
theorem test_meets_QualificationTimesMoveThePort :
    (∃ s : State, (s.port .P0).link = .qualify ∧ (s.port .P0).qualifyStart = some 0 ∧ (s.port .P0).pendingLabel = some 7 ∧
      s.NoneBefore (0 + 500)) ∧
      (∃ s : State, (s.port .P0).link = .qualify ∧ (s.port .P0).qualifyStart = some 0 ∧ (s.port .P0).pendingLabel = none ∧
        s.NoneBefore (0 + 500) ∧ s.NoneBefore (0 + 2000)) := by
  have one : ∀ (l : Option (BitVec 16)) (x : Nat × Timer) (t : Nat), t ≤ x.1 →
      (hubWith { up with link := .qualify, qualifyStart := some 0, pendingLabel := l }).timers = [x] →
      (hubWith { up with link := .qualify, qualifyStart := some 0, pendingLabel := l }).NoneBefore t := by
    intro l x t h e y hy
    rw [e] at hy
    cases List.mem_singleton.mp hy
    exact h
  exact ⟨⟨_, rfl, rfl, rfl, one (some 7) (516, .qualification .P0) _ (by decide) rfl⟩,
    ⟨_, rfl, rfl, rfl, one none (2016, .helloLimit .P0) _ (by decide) rfl, one none (2016, .helloLimit .P0) _ (by decide) rfl⟩⟩

/-- An idle port; a port that holds a line; one with a queued request, with a full outbound queue, with a PARK_REFUSED
waiting. -/
theorem test_meets_ParkIsAcceptedOnlyFromAnIdlePort :
    ((hub.port .P0).link = .up ∧ hub.holdingCount .P0 = 0 ∧ hub.lockCount .P0 = 0 ∧
      (∀ x ∈ hub.txns, x.2.isLiveOf .P0 = false ∧ x.2.member .P0 = none) ∧ (hub.port .P0).requests = [] ∧
      (hub.port .P0).releases = [] ∧ (hub.port .P0).outbound = [] ∧ (hub.port .P0).waiting = []) ∧
      ((holding (.owned .P0 none) none).holdingCount .P0 ≠ 0 ∧ (holding (.owned .P0 none) none).Open .P0) ∧
      ((recalling [member .P1]).holdingCount .P0 = 0 ∧ (recalling [member .P1]).lockCount .P0 = 0 ∧
        ∃ x ∈ (recalling [member .P1]).txns, x.2.isLiveOf .P0 = true ∨ (x.2.member .P0).isSome = true) ∧
      (∃ s : State, (s.port .P0).link = .up ∧ s.holdingCount .P0 = 0 ∧ s.lockCount .P0 = 0 ∧ (s.port .P0).outbound ≠ [] ∧
        ¬ s.Open .P0 ∧ ∀ o ∈ (s.port .P0).waiting, o.isParkRefused = false) ∧
      (∃ s : State, (s.port .P0).link = .up ∧ s.holdingCount .P0 = 0 ∧ s.lockCount .P0 = 0 ∧ (s.port .P0).waiting ≠ [] ∧
        ∃ o ∈ (s.port .P0).waiting, o.isParkRefused = true) := by
  refine ⟨by decide, ⟨by decide, holding_open _ _ _⟩, by decide, ⟨hubWith { up with outbound := List.replicate 16 .swept }, ?_⟩,
    ⟨hubWith { up with outbound := List.replicate 16 .swept, waiting := [.plain (.parkRefused .active)] }, by decide⟩⟩
  exact ⟨rfl, rfl, rfl, by decide, fun h => absurd h.room (by decide), by decide⟩

theorem test_meets_WakeReturnsAParkedPortToUp :
    (∃ s : State, (s.port .P0).link = .parked ∧ (s.port .P0).outbound.length < 16 ∧ (s.port .P0).waiting = []) ∧
      (∃ s : State, (s.port .P0).link = .parked ∧ (s.port .P0).outbound.length = 15 ∧ (s.port .P0).waiting = []) ∧
      (hub.port .P0).link = .up :=
  ⟨⟨hubIn .parked, by decide⟩, ⟨hubWith { up with link := .parked, outbound := List.replicate 15 .swept }, by decide⟩, rfl⟩

theorem test_meets_FramesOutsideUpAreDiscarded :
    framePort (.badFrame .P0) = some .P0 ∧ framePort (.park .P0) = some .P0 ∧ framePort (.recallAck .P0 0 0 .clean) = some .P0 ∧
      messagePort (.permit .P0) = some .P0 ∧ ∀ l, l ≠ .up → ((hubIn l).port .P0).link = l := by
  exact ⟨rfl, rfl, rfl, rfl, fun _ _ => rfl⟩

/-- What each kind's grant is, over the holdings it may find. -/
theorem grantIs_kinds (s : State) (p : Port) (t : Txn) :
    (t.kind = .fetchOwn → ∀ held : Holding, held.owner = none →
      s.GrantIs p t held .own true .owned (.owned p none)) ∧
      (t.kind = .upgrade → ∀ held : Holding, held.owner = none →
        s.GrantIs p t held .own (!held.names p) .owned (.owned p none)) ∧
      (t.kind = .lockFetch → ∀ held : Holding, held.owner = none →
        s.GrantIs p t held .own true .ownedLocked (.owned p (some (s.now + s.lockLifetime)))) ∧
      (t.kind = .lockFetch →
        s.GrantIs p t (.owned p none) .own false .ownedLocked (.owned p (some (s.now + s.lockLifetime)))) ∧
      (t.kind = .fetchShared → ∀ ps, s.GrantIs p t (.shared ps) .shared true .shared (.shared (PortSet.insert ps p))) ∧
      (t.kind = .fetchShared → t.awaited ≠ [] →
        s.GrantIs p t .empty .shared true .shared (.shared (PortSet.insert PortSet.empty p))) ∧
      (t.kind = .fetchShared → t.awaited = [] → s.excl = true → s.blockMode t.line = .openMode →
        s.GrantIs p t .empty .shared true .owned (.owned p none)) :=
  ⟨fun k _ o => .inr (.inl ⟨k, rfl, rfl, o, rfl, rfl⟩), fun k _ o => .inr (.inr (.inl ⟨k, rfl, rfl, o, rfl, rfl⟩)),
    fun k _ o => .inr (.inr (.inr ⟨k, rfl, rfl, rfl, .inl ⟨o, rfl⟩⟩)),
    fun k => .inr (.inr (.inr ⟨k, rfl, rfl, rfl, .inr ⟨rfl, rfl⟩⟩)),
    fun k ps => .inl ⟨k, rfl, rfl, .inr (.inr ⟨ps, rfl, rfl, rfl⟩)⟩,
    fun k a => .inl ⟨k, rfl, rfl, .inr (.inl ⟨rfl, fun h => a h.1, rfl, rfl⟩)⟩,
    fun k a x b => .inl ⟨k, rfl, rfl, .inl ⟨rfl, ⟨a, x, b⟩, rfl, rfl⟩⟩⟩

/-- A full outbound queue of P0 before which the one offer waits. -/
def waitingFor (o : Offer) (s : State) : State :=
  s.updPort .P0 fun ps => { ps with outbound := List.replicate 16 .swept, waiting := [o] }

/-- A RECALL for P0 waits; the grant of P0's RD_OWN waits, its entry without a holder; that of its LOCK, its entry owned by
P0; that of its RD_SHARED, its entry shared, a unit of the line with one wrong bit and another with two. What the grant is,
for each kind: grantIs_kinds. -/
theorem test_meets_AWaitingRecallOrGrantIsPlaced :
    (let s := waitingFor (.recall 0 0x05A 0x01 .invalidate) { holding (.owned .P0 none) (some 0) with
        txns := [(0, { fetch [member .P0] with requester := some .P1 })] };
      (s.port .P0).link = .up ∧ (s.port .P0).outbound = .swept :: List.replicate 15 .swept ∧ s.Settled ∧ (s.txn 0).isSome ∧
        (s.port .P0).waiting = .recall 0 0x05A 0x01 .invalidate :: []) ∧
      (∀ (k : TxnKind) (h : Holding),
        let s := waitingFor (.grant 0) { holding h (some 0) with txns := [(0, { fetch [] with kind := k, phase := .granting })] };
        s.Calm ∧ s.Checkable 0x05A ∧ s.lookup 0x05A = some ⟨0x05A, 0, h, some 0⟩ ∧
          (s.port .P0).waiting = .grant 0 :: [] ∧ s.txn 0 = some { fetch [] with kind := k, phase := .granting } ∧
          (fetch []).requester = some .P0 ∧ (fetch []).abandoned = false ∧ s.excl = true ∧ s.blockMode 0x05A = .openMode) ∧
      (Holding.owner .empty = none ∧ Holding.owner (.shared (PortSet.ofBits 5)) = none) ∧
      State.Checkable { hub with sma := { hub.sma with errors := [(0x168, ⟨1, 0, 0⟩), (0x169, ⟨0, 3, 0⟩)] } } 0x05A := by
  refine ⟨⟨rfl, rfl, rfl, rfl, rfl⟩, fun k h => ⟨⟨rfl, ?_, rfl⟩, ?_, rfl, rfl, rfl, rfl, rfl, rfl, rfl⟩, ⟨rfl, rfl⟩, ?_⟩
  · intro p
    cases p <;> rfl
  · intro u _
    show UnitError.weight UnitError.none ≤ 2
    decide
  · intro u hu
    match u, hu with
    | 0, _ => decide
    | 1, _ => decide
    | 2, _ => decide
    | 3, _ => decide

/-- A message to send in each state; a plain message, the answer of the one request and that of the one release waiting, and
each with more behind it, up to eight in the queue. -/
theorem test_meets_ASentMessageHandsItsPlaceOn :
    hub.Settled ∧
      (((hubWith { up with outbound := [.swept] }).port .P0).outbound = [.swept] ∧
        ((hubWith { up with outbound := [.swept] }).port .P0).waiting = []) ∧
      (((hubWith { up with link := .training, outbound := [.train 1] }).port .P0).link = .training ∧
        ((hubWith { up with link := .training, outbound := [.train 1] }).port .P0).outbound = [.train 1]) ∧
      (∃ s : State, s.Settled ∧ (s.port .P0).link = .up ∧ (s.port .P0).outbound = .swept :: List.replicate 15 .swept ∧
        (s.port .P0).waiting = [.plain .awake]) ∧
      (∃ s : State, s.Settled ∧ (s.port .P0).link = .up ∧ (s.port .P0).outbound = .swept :: List.replicate 15 .swept ∧
        (s.port .P0).waiting = [.head (.done 0 .permit)] ∧ (s.port .P0).requests.length = 1) ∧
      (∃ s : State, s.Settled ∧ (s.port .P0).link = .up ∧ (s.port .P0).outbound = .swept :: List.replicate 15 .swept ∧
        (s.port .P0).waiting = [.release (.done 0 .evict)] ∧ (s.port .P0).releases.length = 1) ∧
      (∀ n : Fin 7, ∃ s : State, s.Settled ∧ s.sweep.activity = .idle ∧ (s.port .P0).link = .up ∧
        (s.port .P0).outbound = .swept :: List.replicate 15 .swept ∧ (s.port .P0).waiting = [.head (.done 0 .permit)] ∧
        (s.port .P0).requests = .permit :: .acquire ⟨.lock, 0x005A, some 3⟩ :: List.replicate n.val (.acquire ⟨.upgrade, 0, none⟩) ∧
        (s.port .P0).requests.length ≤ 8 ∧ (∀ r ∈ (s.port .P0).requests, r.isReceived = true) ∧
        ∀ q, q ≠ .P0 → (s.port q).requests = []) ∧
      (∃ s : State, s.Settled ∧ (s.port .P0).link = .up ∧ (s.port .P0).outbound = .swept :: List.replicate 15 .swept ∧
        (s.port .P0).waiting = [.release (.done 0 .evict)] ∧
        (s.port .P0).releases = .evict 0 :: List.replicate 7 (.recallAck 0 0 .clean)) :=
  ⟨rfl, by decide, by decide, ⟨hubWith { up with outbound := List.replicate 16 .swept, waiting := [.plain .awake] }, by decide⟩,
    ⟨hubWith { up with
      outbound := List.replicate 16 .swept, waiting := [.head (.done 0 .permit)], requests := [.permit]
      headAnswering := true }, by decide⟩,
    ⟨hubWith { up with
      outbound := List.replicate 16 .swept, waiting := [.release (.done 0 .evict)], releases := [.evict 0]
      releaseApplied := true }, by decide⟩,
    fun n => ⟨hubWith { up with
      outbound := List.replicate 16 .swept, waiting := [.head (.done 0 .permit)]
      requests := .permit :: .acquire ⟨.lock, 0x005A, some 3⟩ :: List.replicate n.val (.acquire ⟨.upgrade, 0, none⟩)
      headAnswering := true }, rfl, rfl, rfl, rfl, rfl, rfl, by revert n; decide, by revert n; decide,
      fun q h => by cases q <;> first | exact absurd rfl h | rfl⟩,
    ⟨hubWith { up with
      outbound := List.replicate 16 .swept, waiting := [.release (.done 0 .evict)]
      releases := .evict 0 :: List.replicate 7 (.recallAck 0 0 .clean), releaseApplied := true }, by decide⟩⟩

/-! ## Witnesses: requests -/

theorem test_meets_PermitSetsTheLatchAndIsAnswered : hub.ReadyForRequest .P3 := hub_ready _

theorem test_meets_ALineAboveTheArrayIsRefusedOutOfRange :
    hub.ReadyForRequest .P0 ∧ 0x0FFF < (0x1000 : LineField).toNat ∧ 0x0FFF < (0xFFFF : LineField).toNat :=
  ⟨hub_ready _, by decide, by decide⟩

/-- The hub with block 0 in the mode of a code, and P0's permit latch at a value. -/
def blockZero (code : Reg16) (permit : Bool) : State :=
  { hubWith { up with permit := permit } with prot0 := code }

/-- Two lines locked by P0. -/
def twoLocks : State :=
  { hub with dir := [(0x5A, [⟨0x05A, 0, .owned .P0 (some 20000), none⟩]), (0x5B, [⟨0x05B, 0, .owned .P0 (some 20000), none⟩])] }

/-- A watch entry over line 05AH, of class OWN and every port, on, its action REFUSE. -/
def watched : State := { hub with watch := { hub.watch with e0 := ⟨0x05A, 0x1BD0⟩ } }

/-- Own ownership and own lock; the three refusing modes; a REFUSE entry; two locks. Each with the checks before it passed. -/
theorem test_meets_RefusalChecksSettleInTheirOrder :
    ((holding (.owned .P0 none) none).ReadyForRequest .P0 ∧ (holding (.owned .P0 none) none).ownerOf 0x05A = some .P0 ∧
      (holding (.owned .P0 (some 9)) none).lockerOf 0x05A = some .P0) ∧
      ((blockZero 2 true).ownerOf 0x05A ≠ some .P0 ∧ (blockZero 2 true).blockMode 0x05A = .readOnly ∧
        (blockZero 3 true).blockMode 0x0FF = .readOnly ∧ (blockZero 1 false).blockMode 0x05A = .permitMode ∧
        ((blockZero 1 false).port .P0).permit = false) ∧
      (watched.ownerOf 0x05A ≠ some .P0 ∧ watched.blockMode 0x05A = .openMode ∧
        ∃ e ∈ watched.watch.entries, e.enabled = true ∧ e.refuses = true ∧ e.isMatch .P0 0x05A .own = true) ∧
      (twoLocks.lockerOf 0x100 ≠ some .P0 ∧ twoLocks.blockMode 0x100 = .openMode ∧
        (¬ ∃ e ∈ twoLocks.watch.entries, e.enabled = true) ∧ 2 ≤ twoLocks.lockCount .P0) := by
  exact ⟨⟨holding_ready _ _ _, by decide, by decide⟩, by decide, by decide, by decide⟩

/-- R136's example: base 2C7H and span 16 cover 2C0H to 2CFH. -/
theorem test_watch_range :
    let e : WatchEntry := ⟨0x2C7, 0x13FC⟩
    e.isMatch .P0 0x2C0 .own = true ∧ e.isMatch .P0 0x2CF .own = true ∧ e.isMatch .P0 0x2BF .own = false ∧
      e.isMatch .P0 0x2D0 .own = false := by decide

theorem hub_slot (line : LineNo) : hub.SlotFor line 0 := ⟨rfl, by decide⟩

theorem hub_unwatched (p : Port) (line : LineNo) (c : WatchClass) : hub.Unwatched p line c := by
  intro e he hen
  simp [hub, State.reset, Watch.reset, Watch.entries] at he
  subst he
  exact absurd hen (by decide)

theorem hub_unrefused (p : Port) (line : LineNo) (c : WatchClass) : hub.Unrefused p line c :=
  fun e he hen _ => hub_unwatched p line c e he hen

theorem hub_clean (line : LineNo) : hub.Clean line := fun _ _ => rfl

theorem hub_checkable (line : LineNo) : hub.Checkable line := by
  intro u hu
  rw [hub_clean line u hu]
  decide

/-- An entry that notes matching accesses refuses none of them. -/
theorem test_unrefused_noting :
    State.Unrefused { hub with watch := { hub.watch with e0 := ⟨0x05A, 0x13F8⟩ } } .P0 0x05A .own ∧
      ¬ State.Unwatched { hub with watch := { hub.watch with e0 := ⟨0x05A, 0x13F8⟩ } } .P0 0x05A .own := by
  refine ⟨by intro e he; simp [hub, State.reset, Watch.reset, Watch.entries] at he; rcases he with rfl | rfl <;> decide, ?_⟩
  exact fun h => absurd (h ⟨0x05A, 0x13F8⟩ (by decide) (by decide)) (by decide)

theorem test_meets_RdSharedOfAnUnlistedLineIsFilled :
    hub.ReadyForRequest .P0 ∧ hub.Calm ∧ hub.SlotFor 0xFFF 0 ∧ hub.lookup 0xFFF = none ∧
      (hub.freeWays (setOf 0xFFF)).head? = some 0 ∧ hub.Checkable 0xFFF ∧ hub.Unrefused .P0 0xFFF .shared ∧ hub.excl = true ∧
      hub.blockMode 0xFFF = .openMode :=
  ⟨hub_ready _, hub_calm, hub_slot _, by decide, by decide, hub_checkable _, hub_unrefused _ _ _, rfl, by decide⟩

/-- In an OPEN block, and in a PERMIT block with the latch set; for LOCK too. -/
theorem test_meets_OwnershipRequestsOfAnUnlistedLineAreFilled :
    (hub.ReadyForRequest .P0 ∧ hub.Calm ∧ hub.SlotFor 0x05A 0 ∧ hub.lookup 0x05A = none ∧
      (hub.freeWays (setOf 0x05A)).head? = some 0 ∧ hub.Checkable 0x05A ∧ hub.Unrefused .P0 0x05A .own ∧
      hub.blockMode 0x05A = .openMode ∧ hub.lockCount .P0 + hub.lockFetches .P0 < 2) ∧
      ((blockZero 1 true).ReadyForRequest .P0 ∧ (blockZero 1 true).Calm ∧ (blockZero 1 true).SlotFor 0x05A 0 ∧
        (blockZero 1 true).lookup 0x05A = none ∧ ((blockZero 1 true).freeWays (setOf 0x05A)).head? = some 0 ∧
        (blockZero 1 true).Checkable 0x05A ∧ (blockZero 1 true).Unrefused .P0 0x05A .own ∧
        (blockZero 1 true).blockMode 0x05A = .permitMode ∧ ((blockZero 1 true).port .P0).permit = true ∧
        (blockZero 1 true).lockCount .P0 + (blockZero 1 true).lockFetches .P0 < 2) := by
  refine ⟨⟨hub_ready _, hub_calm, hub_slot _, by decide, by decide, hub_checkable _, hub_unrefused _ _ _, by decide, by decide⟩,
    ⟨⟨rfl, by decide, rfl⟩, rfl, rfl, rfl⟩, ⟨rfl, ?_, rfl⟩, ⟨rfl, by decide⟩, by decide, by decide, hub_checkable _,
    hub_unrefused _ _ _, by decide, rfl, by decide⟩
  intro p
  cases p <;> rfl

/-- P1 is the sharer. -/
theorem test_meets_RdSharedOfASharedLineAddsASharer :
    let s := holding (.shared ⟨false, true, false, false⟩) none
    s.ReadyForRequest .P0 ∧ s.Calm ∧ s.SlotFor 0x05A 0 ∧
      s.lookup 0x05A = some ⟨0x05A, 0, .shared ⟨false, true, false, false⟩, none⟩ ∧ s.Checkable 0x05A ∧
      s.Unrefused .P0 0x05A .shared :=
  ⟨holding_ready _ _ _, holding_calm _ _, ⟨rfl, by decide⟩, by decide, hub_checkable _, hub_unrefused _ _ _⟩

theorem test_meets_HoldersAreGrantedWithoutData :
    (∃ s : State, s.ReadyForRequest .P0 ∧ s.Calm ∧ s.SlotFor 0x05A 0 ∧ s.Unwatched .P0 0x05A .own ∧
      s.blockMode 0x05A = .openMode ∧ ∃ e, s.lookup 0x05A = some e ∧ e.holding = .shared (PortSet.insert PortSet.empty .P0)) ∧
      (∃ s : State, s.ReadyForRequest .P0 ∧ s.Calm ∧ s.SlotFor 0x05A 0 ∧ s.Unwatched .P0 0x05A .own ∧
        s.blockMode 0x05A = .openMode ∧ s.lockCount .P0 + s.lockFetches .P0 < 2 ∧
        ∃ e, s.lookup 0x05A = some e ∧ e.holding = .owned .P0 none) :=
  ⟨⟨holding (.shared (PortSet.insert PortSet.empty .P0)) none, holding_ready _ _ _, holding_calm _ _, ⟨rfl, by decide⟩,
      hub_unwatched _ _ _, by decide, _, rfl, rfl⟩,
    ⟨holding (.owned .P0 none) none, holding_ready _ _ _, holding_calm _ _, ⟨rfl, by decide⟩, hub_unwatched _ _ _, by decide,
      by decide, _, rfl, rfl⟩⟩

/-- P1 as owner, for every request; and three sharers, the requester among them, for RD_OWN, UPGRADE and LOCK. -/
theorem test_meets_TheOtherHoldersAreRecalled (h : Holding) (k : AcquireKind) :
    let s := holding h none
    (s.ReadyForRequest .P0 ∧ s.Calm ∧ s.SlotFor 0x05A 0 ∧ s.lookup 0x05A = some ⟨0x05A, 0, h, none⟩ ∧ (∀ q, s.Open q) ∧
      s.Unrefused .P0 0x05A k.watchClass ∧ s.Allowed .P0 k 0x05A) ∧
      (holding (.owned .P1 none) none).lockCount .P0 + (holding (.owned .P1 none) none).lockFetches .P0 < 2 ∧
      [Port.P0, .P1, .P2, .P3].filter (fun q => (⟨true, true, false, true⟩ : PortSet).get q && q != .P0) = [.P1, .P3] ∧
      [Port.P0, .P1, .P2, .P3].filter (fun q => (⟨false, true, true, true⟩ : PortSet).get q && q != .P0) = [.P1, .P2, .P3] :=
  ⟨⟨holding_ready _ _ _, holding_calm _ _, ⟨rfl, show hub.freeSlots.head? = some 0 by decide⟩, rfl, holding_open _ _,
      hub_unrefused _ _ _,
    .inr (.inl (show BlockMode.ofCode (0 : BitVec 2) = .openMode by decide))⟩, by decide, by decide, by decide⟩

/-- Set 5AH full: the least recent entry busy, the next locked, the third the victim, shared by three ports. -/
def fullSet : State :=
  { hub with dir := [(0x5A, [⟨0x15A, 0, .owned .P3 none, some 9⟩, ⟨0x25A, 1, .owned .P1 (some 20000), none⟩,
    ⟨0x35A, 2, .shared ⟨true, true, true, false⟩, none⟩, ⟨0x45A, 3, .owned .P2 none, none⟩])] }

/-- A set with a victim of several holders, the requester among them, in an OPEN block; and, for the ownership requests, in a
PERMIT block with the latch set. -/
theorem test_meets_AFullSetGivesUpItsVictim :
    (fullSet.ReadyForRequest .P0 ∧ (∀ q, fullSet.Open q) ∧ fullSet.Calm ∧ fullSet.txnOn 0x05A = none ∧
      fullSet.lookup 0x05A = none ∧ fullSet.freeWays (setOf 0x05A) = [] ∧
      (∃ more, fullSet.freeSlots = 0 :: 1 :: more) ∧
      fullSet.victimOf (setOf 0x05A) = some ⟨0x35A, 2, .shared ⟨true, true, true, false⟩, none⟩ ∧ setOf 0x35A = setOf 0x05A ∧
      (∀ c, fullSet.Unrefused .P0 0x05A c) ∧ (∀ k, fullSet.Allowed .P0 k 0x05A) ∧
      fullSet.lockCount .P0 + fullSet.lockFetches .P0 < 2) ∧
      ∀ k, State.Allowed { fullSet with ports := { fullSet.ports with p0 := { up with permit := true } }, prot0 := 1 } .P0 k
        0x05A := by
  refine ⟨⟨⟨⟨rfl, (hub_open .P0).room, rfl⟩, rfl, rfl, rfl⟩, fun q => ?_, ⟨rfl, fun p => ?_, rfl⟩, rfl, by decide, by decide,
    ⟨_, rfl⟩, by decide, by decide, hub_unrefused _ _, fun _ => .inr (.inl (by decide)), by decide⟩,
    fun _ => .inr (.inr (by decide))⟩
  · cases q <;> exact ⟨rfl, (hub_open .P0).room, rfl⟩
  · cases p <;> rfl

/-- A full outbound queue; and one with room, before which a message waits already. For the grant, for a refusal and a PERMIT,
for every release, and for the RECALL of a line that P0 owns. -/
theorem test_meets_AMessageWaitsForOutboundSpace (ob : List Msg) (w : List Offer)
    (h : (ob = List.replicate 16 .swept ∧ w = []) ∨ (ob = [] ∧ w = [.plain .swept])) :
    let s := hubWith { up with outbound := ob, waiting := w }
    let owned := { s with dir := (holding (.owned .P0 none) none).dir }
    ((s.port .P0).link = .up ∧ ¬ s.Open .P0 ∧ s.Calm ∧ (s.port .P0).headAnswering = false ∧ s.SlotFor 0x05A 0 ∧
      s.lookup 0x05A = none ∧ (s.freeWays (setOf 0x05A)).head? = some 0 ∧ (∀ c, s.Unrefused .P0 0x05A c) ∧
      (s.port .P0).releases = [] ∧ (s.port .P0).releaseApplied = false) ∧
      (owned.ReadyForRequest .P1 ∧ owned.SlotFor 0x05A 0 ∧ owned.lookup 0x05A = some ⟨0x05A, 0, .owned .P0 none, none⟩ ∧
        (∀ c, owned.Unrefused .P1 0x05A c)) ∧
      (State.refusal { hub with prot0 := 2 } .P0 .rdOwn 0x05A ≠ none ∧ (0x005A : LineField) = fieldOf 0x05A) ∧
      (∀ k, hub.Allowed .P1 k 0x05A) ∧ hub.lockCount .P0 + hub.lockFetches .P0 < 2 := by
  refine ⟨⟨rfl, ?_, ⟨rfl, fun p => ?_, rfl⟩, rfl, ⟨rfl, show hub.freeSlots.head? = some 0 by decide⟩, rfl, rfl, hub_unrefused _ _,
    rfl, rfl⟩, ⟨⟨⟨rfl, (hub_open .P1).room, rfl⟩, rfl, rfl, rfl⟩, ⟨rfl, show hub.freeSlots.head? = some 0 by decide⟩, rfl,
    hub_unrefused _ _⟩, ⟨by decide, rfl⟩, fun _ => .inr (.inl (by decide)), by decide⟩
  · rcases h with ⟨rfl, rfl⟩ | ⟨rfl, rfl⟩
    · exact fun o => absurd o.room (by decide)
    · exact fun o => absurd o.waiting (by decide)
  · cases p <;> rfl

/-- Queues of 1 and of 7; a sweep of all ports; a transaction on the line; another port's lock; no free slot; a full set with one
free slot, and one without a victim. -/
theorem test_meets_HeldRequestsWaitAndAreExaminedAgain :
    (∀ n ∈ [1, 7], ((hubWith { up with requests := List.replicate n .permit }).port .P0).requests ≠ [] ∧
      ((hubWith { up with requests := List.replicate n .permit }).port .P0).requests.length < 8 ∧
      ((hubWith { up with releases := List.replicate n (.evict 0) }).port .P0).releases ≠ [] ∧
      ((hubWith { up with releases := List.replicate n (.evict 0) }).port .P0).releases.length < 8) ∧
      (State.refusal { hub with sweep := ⟨.draining, some .all, 0, false, .none, false⟩ } .P0 .rdOwn 0x05A = none ∧
        SweepActivity.draining ≠ .idle) ∧
      ((recalling [member .P1]).refusal .P0 .rdOwn 0x05A = none ∧ (∃ x ∈ (recalling [member .P1]).txns, x.2.line = 0x05A)) ∧
      ((holding (.owned .P1 (some 9)) none).refusal .P0 .lock 0x05A = none ∧
        (holding (.owned .P1 (some 9)) none).lockerOf 0x05A = some .P1) ∧
      (∃ s : State, s.refusal .P0 .rdOwn 0x05A = none ∧ s.freeSlots = []) ∧
      (∃ s : State, s.refusal .P0 .rdOwn 0x05A = none ∧ s.lookup 0x05A = none ∧ s.freeWays (setOf 0x05A) = [] ∧
        s.freeSlots.length = 1) ∧
      (∃ s : State, s.refusal .P0 .rdOwn 0x05A = none ∧ s.lookup 0x05A = none ∧ s.freeWays (setOf 0x05A) = [] ∧
        ∀ e ∈ s.setEntries (setOf 0x05A), e.busy ≠ none ∨ e.holding.lock ≠ none) :=
  ⟨by decide, by decide, by decide, by decide,
    ⟨{ hub with txns := (List.range 16).map fun n => (n, fetch []) }, by decide⟩,
    ⟨{ fullSet with txns := (List.range 15).map fun n => (n, { fetch [] with line := 0x15A }) }, by decide⟩,
    ⟨{ hub with dir := [(0x5A, [⟨0x15A, 0, .owned .P3 none, some 9⟩, ⟨0x25A, 1, .owned .P1 (some 20000), none⟩,
      ⟨0x35A, 2, .empty, some 8⟩, ⟨0x45A, 3, .owned .P2 (some 9), none⟩])] }, by decide⟩⟩

/-- P2 owns line 05AH, locked or not; RD_OWNs for it wait at the heads of P0 and, where `two`, of P1; P3 was the last
admitted. -/
def heads (two : Bool) (lock : Option Nat) (busy : Option Nat) : State :=
  { holding (.owned .P2 lock) busy with
    ports := { hub.ports with
      p0 := { up with requests := [.acquire ⟨.rdOwn, 0x005A, some 3⟩] }
      p1 := { up with requests := if two then [.acquire ⟨.rdOwn, 0x005A, some 3⟩] else [] } } }

theorem heads_waiting (two : Bool) (lock busy : Option Nat) :
    (heads two lock busy).Settled ∧ (heads two lock busy).Heads .P0 (.acquire ⟨.rdOwn, 0x005A, some 3⟩) ∧
      (two = true → (heads two lock busy).Heads .P1 (.acquire ⟨.rdOwn, 0x005A, some 3⟩)) ∧
      (two = false → ∀ p, p ≠ .P0 → ((heads two lock busy).port p).requests = []) ∧
      (∀ p, p ≠ .P0 → p ≠ .P1 → ((heads two lock busy).port p).requests = []) ∧
      (Port.P0.number + 3 - (heads two lock busy).lastAdmitted.number) % 4 <
        (Port.P1.number + 3 - (heads two lock busy).lastAdmitted.number) % 4 := by
  refine ⟨rfl, ⟨rfl, rfl, rfl, by decide⟩, ?_, ?_, ?_, show (0 + 3 - 3) % 4 < (1 + 3 - 3) % 4 by decide⟩
  · rintro rfl
    exact ⟨rfl, rfl, rfl, by decide⟩
  · rintro rfl p hp
    cases p <;> first | exact absurd rfl hp | rfl
  · intro p hp hq
    cases p <;> first | exact absurd rfl hp | exact absurd rfl hq | rfl

/-- The events that clear a hold: an UNLOCK, the lock's expiry, the last answer, the placing of a waiting grant, a cancel. -/
theorem test_meets_HeldRequestsWaitAndAreExaminedAgain_clears (two : Bool) :
    (heads two (some 9) none).Clears (.unlock .P2 (fieldOf 0x05A)) ∧ (heads two (some 9) none).Clears (.lockExpiry 0x05A) ∧
      (let t := { fetch [member .P2] with requester := some .P3 };
        State.Clears { heads two none (some 0) with txns := [(0, t)] } (.recallAck .P2 (fieldOf 0x05A) 0x01 .clean)) ∧
      (let s := { heads two none (some 0) with
          txns := [(0, { fetch [] with requester := some .P3, phase := .granting, grantPending := true })] };
        State.Clears { s with ports := { s.ports with
          p3 := { up with outbound := List.replicate 16 .swept, waiting := [.grant 0] } } } (.messageSent .P3)) ∧
      State.Clears { heads two none none with sweep := ⟨.draining, some .all, 0, false, .none, false⟩ } .cancel := by
  have timers : (heads two (some 9) none).timers = [(25, .lock 0x05A)] := by cases two <;> decide
  refine ⟨.inl ⟨rfl, .inl ⟨.P2, 0x05A, rfl, ⟨rfl, rfl, rfl, rfl⟩, rfl⟩⟩,
    .inl ⟨rfl, .inr (.inl ⟨0x05A, ⟨0x05A, 0, .owned .P2 (some 9), none⟩, .P2, 9, rfl, rfl, rfl, ?_⟩)⟩,
    .inl ⟨rfl, .inr (.inr (.inl ⟨.P2, 0, { fetch [member .P2] with requester := some .P3 }, .clean, rfl, ⟨rfl, rfl, rfl, rfl⟩, rfl,
      show (0x01 : Tag).toNat / 16 = 0 by decide, rfl, rfl, ?_, .inr (.inr ⟨.P3, rfl, ⟨rfl, (hub_open .P3).room, rfl⟩⟩)⟩))⟩,
    .inl ⟨rfl, .inr (.inr (.inr ⟨.P3, .swept, List.replicate 15 .swept, 0,
      { fetch [] with requester := some .P3, phase := .granting, grantPending := true }, [], rfl, rfl, rfl, rfl, rfl, rfl, rfl⟩))⟩,
    .inr ⟨rfl, nofun, nofun, rfl, rfl⟩⟩
  · intro x hx
    rw [timers] at hx
    cases List.mem_singleton.mp hx
    decide
  · intro m hm hp
    cases List.mem_singleton.mp hm
    exact absurd rfl hp

/-- Two RD_OWNs wait for P2's lock: at the UNLOCK that of the port after the last admitted is taken, the other held on. -/
theorem test_unlock_examinesTheHeadsInOrder :
    let s := after (.unlock .P2 0x005A) (heads true (some 9) none)
    let u := after (.unlock .P2 0x005A) { heads true (some 9) none with lastAdmitted := .P0 }
    ((s.port .P0).requests = [] ∧ (s.port .P1).requests.length = 1 ∧ (s.port .P2).outbound =
      [.done 0x005A .unlock, .recall 0x05A 0x01 .invalidate]) ∧
      (u.port .P0).requests.length = 1 ∧ (u.port .P1).requests = [] := by decide +kernel

/-- The outbound queue at 15 and at 16. -/
theorem test_meets_ANinthRequestIsAnOverrun :
    (∃ s : State, (s.port .P0).link = .up ∧ (s.port .P0).requests.length = 8 ∧ (s.port .P0).outbound.length < 16 ∧
      (s.port .P0).outbound.length = 15 ∧ (s.port .P0).waiting = []) ∧
      (∃ s : State, (s.port .P0).link = .up ∧ (s.port .P0).requests.length = 8 ∧ 16 ≤ (s.port .P0).outbound.length) :=
  ⟨⟨hubWith { up with requests := List.replicate 8 .permit, outbound := List.replicate 15 .swept }, by decide⟩,
    ⟨hubWith { up with requests := List.replicate 8 .permit, outbound := List.replicate 16 .swept }, by decide⟩⟩

/-! ## Witnesses: releases and recall answers -/

/-- From the owner, its line locked; and from an open member that is not the owner, and from one that is. -/
theorem test_meets_AWritebackFromTheOwnerStoresItsLine :
    (let s := holding (.owned .P0 (some 9)) none;
      s.ReadyForRelease .P0 ∧ s.Open .P0 ∧ s.Calm ∧ s.txnOn 0x05A = none ∧
        s.lookup 0x05A = some ⟨0x05A, 0, .owned .P0 (some 9), none⟩) ∧
      ∀ (p : Port) (st : MemberState), p = .P1 ∨ p = .P2 → st ≠ .answered →
        let s := recalling [{ member p with state := st }];
        s.ReadyForRelease p ∧ s.Open p ∧ s.txnOn 0x05A = some (0, fetch [{ member p with state := st }]) ∧
          s.txn 0 = some (fetch [{ member p with state := st }]) ∧
          (fetch [{ member p with state := st }]).member p = some { member p with state := st } ∧
          s.lookup 0x05A = some ⟨0x05A, 0, .owned .P1 none, some 0⟩ := by
  refine ⟨⟨holding_release _ _ _, holding_open _ _ _, holding_calm _ _, rfl, by decide⟩, fun p st hp _ => ?_⟩
  rcases hp with rfl | rfl <;>
    exact ⟨⟨rfl, rfl, rfl, rfl⟩, ⟨rfl, (hub_open .P1).room, rfl⟩, rfl, rfl, rfl, rfl⟩

/-- A sharer, and a member that is ANSWERED already. -/
theorem test_meets_AWritebackFromANonOwnerIsRefused :
    (let s := holding (.shared ⟨true, false, false, false⟩) none;
      s.ReadyForRelease .P0 ∧ s.Open .P0 ∧ s.ownerOf 0x05A ≠ some .P0 ∧
        ∀ x ∈ s.txns, x.2.line = 0x05A → ∀ m ∈ x.2.awaited, m.port = .P0 → m.state = .answered) ∧
      (∃ s : State, s.ownerOf 0x05A ≠ some .P2 ∧ (∃ x ∈ s.txns, ∃ m ∈ x.2.awaited, m.port = .P2) ∧
        ∀ x ∈ s.txns, x.2.line = 0x05A → ∀ m ∈ x.2.awaited, m.port = .P2 → m.state = .answered) :=
  ⟨⟨holding_release _ _ _, holding_open _ _ _, by decide, by decide⟩,
    ⟨recalling [member .P1, { member .P2 with state := .answered, deadline := none }], by decide⟩⟩

/-- The only holder, one of two sharers, no entry; another owner, sharers without the port; and a WAITING member. -/
theorem test_meets_AnEvictRemovesItsPort :
    (let s := holding (.owned .P0 none) none;
      s.ReadyForRelease .P0 ∧ s.Open .P0 ∧ s.Calm ∧ s.txnOn 0x05A = none ∧
        ∃ e, s.lookup 0x05A = some e ∧ e.busy = none ∧ e.holding.holders = [.P0]) ∧
      (∃ e, (holding (.shared ⟨true, false, true, false⟩) none).lookup 0x05A = some e ∧ e.busy = none ∧
        e.holding = .shared ⟨true, false, true, false⟩ ∧ Port.P2 ≠ .P0 ∧
        (⟨true, false, true, false⟩ : PortSet).get .P2 = true) ∧
      hub.lookup 0x05A = none ∧
      ((holding (.owned .P1 (some 9)) none).DirectoryForm ∧
        (holding (.owned .P1 (some 9)) none).lookup 0x05A = some ⟨0x05A, 0, .owned .P1 (some 9), none⟩) ∧
      ((holding (.shared ⟨false, false, true, false⟩) none).DirectoryForm ∧
        (⟨false, false, true, false⟩ : PortSet).get .P0 = false ∧ (⟨false, false, true, false⟩ : PortSet).get .P2 = true) ∧
      (let s := recalling [member .P1];
        s.ReadyForRelease .P1 ∧ s.Open .P1 ∧ s.txnOn 0x05A = some (0, fetch [member .P1]) ∧
          s.txn 0 = some (fetch [member .P1]) ∧ (fetch [member .P1]).member .P1 = some (member .P1) ∧
          (member .P1).state = .waiting ∧ s.lookup 0x05A = some ⟨0x05A, 0, .owned .P1 none, some 0⟩) :=
  ⟨⟨holding_release _ _ _, holding_open _ _ _, holding_calm _ _, rfl, _, rfl, rfl, rfl⟩, ⟨_, rfl, rfl, rfl, by decide, rfl⟩,
    by decide, ⟨holding_directoryForm _, by decide⟩, ⟨holding_directoryForm _, rfl, rfl⟩,
    ⟨rfl, rfl, rfl, rfl⟩, ⟨rfl, (hub_open .P1).room, rfl⟩, rfl, rfl, rfl, rfl, rfl⟩

/-- A lock of P0; none; and a field above FFFH. -/
theorem test_meets_UnlockEndsOnlyTheSendersLock :
    (let s := holding (.owned .P0 (some 9)) none;
      s.ReadyForRelease .P0 ∧ s.Open .P0 ∧ (0x005A : LineField) = fieldOf 0x05A ∧ s.lockerOf 0x05A = some .P0 ∧ s.Calm) ∧
      (∀ line : LineNo, (0x005A : LineField) = fieldOf line → hub.lockerOf line ≠ some .P0) ∧
      (∀ line : LineNo, (0x1000 : LineField) = fieldOf line → hub.lockerOf line ≠ some .P0) :=
  ⟨⟨holding_release _ _ _, holding_open _ _ _, rfl, by decide, holding_calm _ _⟩, fun _ _ => nofun, fun _ _ => nofun⟩

/-- P2's answer, as sharer or as a port that is none, while P1 is still awaited: INVALIDATE; and P1's under DOWNGRADE, while
P2 is awaited, WAITING or RELEASED. -/
theorem test_meets_ARecallAnswerEndsItsMember (m : Member) (h : m.state ≠ .answered) (p q : Port)
    (hp : (p = .P2 ∧ q = .P1) ∨ (p = .P1 ∧ q = .P2)) (mp : m.port = p) :
    let s := recalling [m, member q]
    s.ReadyForRelease p ∧ s.txn 0 = some (fetch [m, member q]) ∧ (fetch [m, member q]).tag.toNat / 16 = 0 ∧
      (fetch [m, member q]).member p = some m ∧ m.state ≠ .answered ∧ member q ∈ (fetch [m, member q]).awaited ∧
      (member q).port ≠ p ∧ (member q).state ≠ .answered ∧
      s.lookup 0x05A = some ⟨0x05A, 0, .owned .P1 none, some 0⟩ := by
  refine ⟨?_, rfl, show (0x01 : Tag).toNat / 16 = 0 by decide, ?_, h, .tail _ (.head _), ?_, show MemberState.waiting ≠ .answered by decide, rfl⟩
  · rcases hp with ⟨rfl, rfl⟩ | ⟨rfl, rfl⟩ <;> exact ⟨rfl, rfl, rfl, rfl⟩
  · simp [fetch, Txn.member, mp]
  · rcases hp with ⟨rfl, rfl⟩ | ⟨rfl, rfl⟩ <;> decide

/-- P1's line recalled for P0's transaction of a kind. -/
def recallingFor (k : TxnKind) (h : Holding) (m : Member) : State :=
  { holding h (some 0) with txns := [(0, { fetch [m] with kind := k })], seqs := [(0, 1)], lastAdmitted := .P0 }

/-- Every kind, mode, open state and answer; what the grant is, over the holding that the answer leaves: grantIs_kinds. -/
theorem test_meets_TheLastAnswerGrantsTheLine (k : TxnKind) (h : Holding) (mode : RecallMode) (st : MemberState)
    (hs : st ≠ .answered) (hl : h.lock = none) :
    let m : Member := { member .P1 with mode := mode, state := st }
    let t : Txn := { fetch [m] with kind := k }
    let s := recallingFor k h m
    Port.P0 ≠ .P1 ∧ s.ReadyForRelease .P1 ∧ s.Open .P0 ∧ s.Calm ∧ s.txn 0 = some t ∧ t.tag.toNat / 16 = 0 ∧
      t.requester = some .P0 ∧ t.abandoned = false ∧ t.phase = .recalling ∧ t.member .P1 = some m ∧ m.state ≠ .answered ∧
      (∀ n ∈ t.awaited, n.port ≠ .P1 → n.state = .answered) ∧ s.lookup t.line = some ⟨0x05A, 0, h, some 0⟩ ∧
      h.lock = none ∧ s.Checkable t.line := by
  refine ⟨by decide, ⟨rfl, rfl, rfl, rfl⟩, ⟨rfl, (hub_open .P0).room, rfl⟩, ⟨rfl, fun p => ?_, rfl⟩, rfl,
    show (0x01 : Tag).toNat / 16 = 0 by decide, rfl, rfl, rfl, rfl, hs, fun n hn hp => ?_, rfl, hl, hub_checkable _⟩
  · cases p <;> rfl
  · cases List.mem_singleton.mp hn
    exact absurd rfl hp

/-- The holdings that answers leave: none under INVALIDATE; P1 as sharer, or none, under DOWNGRADE; and P0 as the sharer
that an UPGRADE's GRANT finds. -/
theorem test_holdingAfter :
    (∀ a, Member.holdingAfter (member .P1) .P1 a (.owned .P1 none) = .empty) ∧
      (∀ a, a ≠ .none → Member.holdingAfter { member .P1 with mode := .downgrade } .P1 a (.owned .P1 none) =
        .shared ⟨false, true, false, false⟩) ∧
      Member.holdingAfter { member .P1 with mode := .downgrade } .P1 .none (.owned .P1 none) = .empty ∧
      ∀ a, Member.holdingAfter (member .P1) .P1 a (.shared ⟨true, true, false, false⟩) =
        .shared ⟨true, false, false, false⟩ :=
  ⟨fun _ => rfl, fun a h => by cases a <;> first | rfl | exact absurd rfl h, rfl, fun _ => rfl⟩

/-- No transaction in the tag's slot; a transaction there whose member for the port is ANSWERED; and a field above FFFH. -/
theorem test_meets_UnmatchedReleasesAreCountedOrAnswered :
    hub.ReadyForRelease .P0 ∧ hub.txn ((0x31 : Tag).toNat / 16) = none ∧
      (∃ s : State, s.ReadyForRelease .P2 ∧ ∃ t m, s.txn ((0x01 : Tag).toNat / 16) = some t ∧ t.tag = 0x01 ∧
        t.member .P2 = some m ∧ m.state = .answered) ∧
      hub.Open .P0 ∧ 0x0FFF < (0x1000 : LineField).toNat :=
  ⟨hub_release _, rfl, ⟨recalling [member .P1, { member .P2 with state := .answered, deadline := none }], ⟨rfl, rfl, rfl, rfl⟩,
    fetch [member .P1, { member .P2 with state := .answered, deadline := none }], _, rfl, rfl, rfl, rfl⟩, hub_open _, by decide⟩

/-- P1 owns line 05AH, the slot T0 of the kind, in the phase RECALLING, recalls it, and slot T5 holds another transaction. -/
def ending (k : TxnKind) (abandoned : Bool) (partner : Txn) (w : Sweep) : State :=
  { holding (.owned .P1 none) (some 0) with
    txns := [(0, { fetch [member .P1] with kind := k, abandoned := abandoned, partner := some 5 }), (5, partner)], sweep := w }

/-- A VICTIM with a live and with an abandoned partner; an abandoned transaction; a SWEEP, the last in flight and not,
cancelled and not; every answer, as INVALIDATE leaves no holder. -/
theorem test_meets_TheLastAnswerEndsTheTransaction (k : TxnKind) (abandoned : Bool) (r : Txn) (w : Sweep) (a : Answer) :
    let s := ending k abandoned r w
    let t := { fetch [member .P1] with kind := k, abandoned := abandoned, partner := some 5 }
    (s.ReadyForRelease .P1 ∧ (∀ p, (s.port p).requests = []) ∧ Store.Rising s.txns ∧ s.SetForm ∧ s.txn 0 = some t ∧
      t.tag.toNat / 16 = 0 ∧ t.phase = .recalling ∧ t.member .P1 = some (member .P1) ∧
      (∀ n ∈ t.awaited, n.port ≠ .P1 → n.state = .answered) ∧
      s.lookup t.line = some ⟨0x05A, 0, .owned .P1 none, some 0⟩ ∧
      Member.holdingAfter (member .P1) .P1 a (.owned .P1 none) = .empty) ∧
      (t.partner = some 5 ∧ s.txn 5 = some r ∧ s.Open .P0 ∧ setOf 0x15A = setOf t.line ∧ (0x15A : LineNo) ≠ t.line ∧
        s.lookup 0x15A = none ∧ s.Checkable 0x15A) ∧
      State.sweepsInFlight (ending .sweep false { fetch [] with kind := .sweep } w) = 2 ∧
      State.sweepsInFlight (ending .sweep false (fetch []) w) = 1 ∧ ∀ p, (s.port p).link = .up → s.Open p := by
  have open_ : ∀ p, (ending k abandoned r w).Open p := fun p => by cases p <;> exact ⟨rfl, (hub_open .P0).room, rfl⟩
  have set : (holding (.owned .P1 none) (some 0)).SetForm := ⟨by decide, by decide⟩
  refine ⟨⟨⟨rfl, rfl, rfl, rfl⟩, ?_, ?_, ⟨set.rising, set.sets⟩, rfl, show (0x01 : Tag).toNat / 16 = 0 by decide, rfl, rfl,
    fun n hn hp => ?_, rfl, rfl⟩,
    ⟨rfl, rfl, open_ _, show setOf 0x15A = setOf 0x05A by decide, show (0x15A : LineNo) ≠ 0x05A by decide, rfl,
      hub_checkable _⟩, rfl, rfl, fun p _ => open_ p⟩
  · intro p
    cases p <;> rfl
  · simp [Store.Rising, ending]
  · cases List.mem_singleton.mp hn
    exact absurd rfl hp

/-! ## Witnesses: timers -/

theorem test_meets_AFirstTimeoutSendsASecondRecall :
    let s := recalling [member .P1]
    s.txn (0 : BitVec 4).toNat = some (fetch [member .P1]) ∧ (fetch [member .P1]).member .P1 = some (member .P1) ∧
      (member .P1).state ≠ .answered ∧ (member .P1).second = false ∧ (member .P1).deadline = some 256 ∧ s.Open .P1 ∧
      s.NoneBefore 256 :=
  ⟨rfl, rfl, by decide, rfl, rfl, ⟨rfl, (hub_open .P1).room, rfl⟩, recalling_noneBefore false⟩

theorem test_meets_AnExpiredLockLeavesItsOwner :
    let s := holding (.owned .P0 (some 20000)) none
    s.lookup 0x05A = some ⟨0x05A, 0, .owned .P0 (some 20000), none⟩ ∧ s.Open .P0 ∧ s.Calm ∧ s.NoneBefore 20000 := by
  refine ⟨by decide, holding_open _ _ _, holding_calm _ _, ?_⟩
  intro x h
  rw [show (holding (.owned .P0 (some 20000)) none).timers = [(20016, .lock 0x05A)] by decide] at h
  cases List.mem_singleton.mp h
  decide

/-- Locks due at 20 ms and at 1 ms. -/
theorem test_meets_NoStepPassesATimer :
    let s : State := { hub with
      dir := [(0x5A, [⟨0x05A, 0, .owned .P1 (some 20000), none⟩]), (0x5B, [⟨0x05B, 0, .owned .P0 (some 1000), none⟩])] }
    let first := State.runOut { s with now := max s.now 1016 } (.lock 0x05B)
    hub.Timely ∧ (∃ t, step hub = .next t) ∧ s.moment (.lock 0x05A) = some 20000 ∧
      s.overdue 20000 = some (1016, .lock 0x05B) ∧ first.timers = [(20016, .lock 0x05A)] ∧
      first.moment (.lock 0x05A) = some 20000 :=
  ⟨fun x h => hub_noneBefore _ x h, ⟨_, rfl⟩, by decide, by decide, by decide +kernel, by decide +kernel⟩

/-! ## Witnesses: the supervisor's commands -/

/-- DISABLED, TRAINING, QUALIFY, PARKED, DOWN and FAULTED ports under a mask. -/
theorem test_meets_PortEnablesAreSetAndCleared :
    hub.init ≠ .resetLow ∧ hub.Silent ∧ hub.Settled ∧ ((hubIn .disabled).port .P0).link = .disabled ∧
      (0xF : BitVec 4).getLsbD Port.P0.number = true ∧
      (∀ l, l ≠ .up → ∀ p : Port, (0x1 : BitVec 4).getLsbD p.number = true → ((hubIn l).port p).link ≠ .up) := by
  refine ⟨by decide, hub_silent, rfl, rfl, by decide, ?_⟩
  intro l hl p
  cases p
  · exact fun _ => hl
  · exact fun h => absurd h (by decide)
  · exact fun h => absurd h (by decide)
  · exact fun h => absurd h (by decide)

theorem test_meets_PortResetAndClearFaultSendThePortToDown :
    hub.init ≠ .resetLow ∧ hub.Silent ∧ ∀ l, ((hubIn l).port .P0).link = l := ⟨by decide, hub_silent, fun _ => rfl⟩

/-! ## Witnesses: sweeps -/

/-- A sweep that waits for the agent transaction of P0. -/
def draining (m : SweepMode) (s : State) : State := { s with sweep := ⟨.draining, some m, 0, false, .none, false⟩ }

/-- An idle engine and one in CLOSING; an agent transaction in flight; none; and a DRAINING engine whose one transaction is
about to end: its LOCK's grant waits, or its port is about to be lost. -/
theorem test_meets_ASweepStartsOnlyFromIdle :
    hub.init ≠ .resetLow ∧ hub.Settled ∧
      State.Settled { hub with sweep := ⟨.closing, some .all, 1024, false, .none, false⟩ } ∧
      ((recalling [member .P1]).sweep.activity = .idle ∧
        ∃ x ∈ (recalling [member .P1]).txns, x.2.kind.isAgent = true ∧ x.2.abandoned = false ∧
          ∃ p, x.2.requester = some p ∧ (SweepMode.port .P0 = .all ∨ SweepMode.port .P0 = .port p)) ∧
      (hub.Calm ∧ hub.dir = [] ∧ hub.txns = [] ∧ ∀ p, (hub.port p).link = .up → hub.Open p) ∧
      (∀ m, let t := { fetch [] with kind := TxnKind.lockFetch, phase := .granting };
        let s := draining m (waitingFor (.grant 0) { holding (.owned .P0 none) (some 0) with txns := [(0, t)] });
        s.Settled ∧ (s.port .P0).link = .up ∧ (∀ q, (s.port q).requests = []) ∧ s.txn 0 = some t ∧
          s.lookup t.line = some ⟨0x05A, 0, .owned .P0 none, some 0⟩ ∧
          s.dir = [(setOf t.line, [⟨0x05A, 0, .owned .P0 none, some 0⟩])] ∧ (∀ x ∈ s.txns, x.1 ≠ 0 → False) ∧
          (s.port .P0).outbound = .swept :: List.replicate 15 .swept ∧ (s.port .P0).waiting = .grant 0 :: [] ∧
          s.Checkable t.line) ∧
      ∀ m, let s := draining m (recalling [member .P1]);
        s.Settled ∧ (s.port .P0).link = .up ∧ (∀ q, (s.port q).requests = []) ∧ s.txn 0 = some (fetch [member .P1]) ∧
          s.dir = [(setOf 0x05A, [⟨0x05A, 0, .owned .P1 none, some 0⟩])] ∧ (∀ x ∈ s.txns, x.1 ≠ 0 → False) ∧ s.LinkForm ∧ s.DirectoryForm ∧
          (fetch [member .P1]).phase = .recalling ∧ member .P1 ∈ (fetch [member .P1]).awaited ∧ s.sweepsInFlight = 0 := by
  refine ⟨by decide, rfl, rfl, ⟨rfl, (0, fetch [member .P1]), by decide, rfl, rfl, .P0, rfl, .inr rfl⟩,
    ⟨hub_calm, rfl, rfl, fun p _ => hub_open p⟩,
    fun m => ⟨rfl, rfl, fun q => by cases q <;> rfl, rfl, rfl, rfl, fun x hx h => ?_, rfl, rfl, hub_checkable _⟩,
    fun m => ⟨rfl, rfl, fun q => by cases q <;> rfl, rfl, rfl, fun x hx h => ?_, ?_, ?_, rfl, .head _, rfl⟩⟩
  · cases List.mem_singleton.mp hx
    exact h rfl
  · cases List.mem_singleton.mp hx
    exact h rfl
  · have form := recalling_linkForm (member .P1)
    exact ⟨form.table, ⟨form.sets.rising, form.sets.sets⟩, form.holders, form.requesters, form.members, form.once, form.silent⟩
  · have form := recalling_directoryForm
    exact ⟨⟨form.sets.rising, form.sets.sets⟩, form.table, form.fourWays, form.lines, form.oneTxn, form.claimed, form.unclaimed,
      form.busy, form.requesters, form.partners, form.victims, form.answered, form.grants, form.locks, form.lockFetches⟩

/-- A busy entry, a locked one, a free one; named by the sweep's port, and not. -/
theorem test_meets_TheCursorPassesWaitsOrStarts :
    (∃ e : Entry, e.busy ≠ none ∧ e.holding.names .P0 = true) ∧ (∃ e : Entry, e.holding.lock ≠ none ∧ e.holding.names .P0 = true) ∧
      (∃ e : Entry, e.busy = none ∧ e.holding.lock = none ∧ e.holding.holders ≠ [] ∧ e.holding.names .P0 = true ∧
        e.holding.names .P1 = false) :=
  ⟨⟨⟨0x05A, 0, .owned .P0 none, some 3⟩, by decide⟩, ⟨⟨0x05A, 0, .owned .P0 (some 9), none⟩, by decide⟩,
    ⟨⟨0x05A, 0, .owned .P0 none, none⟩, by decide⟩⟩

/-- Sixteen transactions, that in T0 abandoned, on line 059H and awaiting P3's answer, while the cursor waits for a slot at
the entry of line 05AH. -/
def waitingForSlot (m : SweepMode) (h : Holding) : State :=
  { hub with
    dir := [(0x59, [⟨0x059, 0, .empty, some 0⟩]), (0x5A, [⟨0x05A, 0, h, none⟩])]
    txns := (0, { fetch [member .P3] with line := 0x059, abandoned := true }) ::
      (List.range 15).map fun n => (n + 1, fetch [])
    sweep := ⟨.sweeping, some m, 4 * setOf 0x05A + 0, false, .none, false⟩ }

theorem test_meets_ASweepRecallsALinesHolder_slotFreed (m : SweepMode) (h : Holding) :
    let s := waitingForSlot m h
    let t : Txn := { fetch [member .P3] with line := 0x059, abandoned := true }
    s.ReadyForRelease .P3 ∧ (∀ r, (s.port r).requests = []) ∧ Store.Rising s.txns ∧ s.SetForm ∧ s.freeSlots = [] ∧
      s.sweepsInFlight < 4 ∧ s.txn 0 = some t ∧ t.tag.toNat / 16 = 0 ∧ t.awaited = [member .P3] ∧
      s.lookup t.line = some ⟨0x059, 0, .empty, some 0⟩ ∧ s.lookup 0x05A = some ⟨0x05A, 0, h, none⟩ ∧
      (s.setEntries (setOf 0x05A)).find? (fun e => e.way == 0) = some ⟨0x05A, 0, h, none⟩ ∧
      (∀ x ∈ s.dir, ∀ e ∈ x.2, 4 * x.1 + e.way ≤ s.sweep.cursor) ∧ ∀ r, s.Open r := by
  have txns : Store.Rising (waitingForSlot .all .empty).txns := by decide
  have rising : Store.Rising (waitingForSlot m h).dir := by simp [waitingForSlot, Store.Rising]
  refine ⟨⟨rfl, rfl, rfl, rfl⟩, fun r => by cases r <;> rfl, txns, ⟨rising, ?_⟩, rfl,
    show State.sweepsInFlight (waitingForSlot .all .empty) < 4 by decide, rfl, show (0x01 : Tag).toNat / 16 = 0 by decide, rfl,
    rfl, rfl, rfl, ?_, fun r => by cases r <;> exact ⟨rfl, (hub_open .P0).room, rfl⟩⟩
  all_goals
    intro x hx e he
    rcases List.mem_cons.mp hx with rfl | hx
    · cases List.mem_singleton.mp he
      first | rfl | exact (show 4 * 0x59 + 0 ≤ 4 * setOf 0x05A + 0 by decide)
    · cases List.mem_singleton.mp hx
      cases List.mem_singleton.mp he
      rfl

/-- One free entry, of one holder and of several; one busy, one locked, one with no free slot; a running sweep whose cursor
waits at each of them, and at the entry whose lock goes. -/
theorem test_meets_ASweepRecallsALinesHolder :
    let s := holding (.owned .P2 none) none
    let locked := holding (.owned .P2 (some 9)) none
    let running : Entry → State := fun e => { hub with
      dir := [(0x5A, [e, ⟨0x15A, 1, .owned .P0 (some 9), none⟩])], sweep := ⟨.sweeping, some .all, 0x168, false, .none, false⟩ }
    (s.init ≠ .resetLow ∧ s.Calm ∧ s.Open .P2 ∧ s.txns = [] ∧ s.dir = [(setOf 0x05A, [⟨0x05A, 0, .owned .P2 none, none⟩])] ∧
      Holding.holders (.owned .P2 none) = [.P2]) ∧
      (locked.Settled ∧ locked.sweep.activity = .idle ∧
        locked.dir = [(setOf 0x05A, [⟨0x05A, 0, .owned .P2 (some 9), none⟩])] ∧ locked.txns = [] ∧
        Holding.lock (.owned .P2 (some 9)) ≠ none) ∧
      ((holding (.shared ⟨true, false, true, false⟩) none).Calm ∧ (∀ r, (holding (.shared ⟨true, false, true, false⟩) none).Open r) ∧
        Holding.names (.shared ⟨true, false, true, false⟩) .P2 = true ∧
        Holding.holders (.shared ⟨true, false, true, false⟩) = [.P0, .P2]) ∧
      (∃ u : State, u.Settled ∧ u.freeSlots = [] ∧ u.dir = s.dir ∧
        ∀ x ∈ u.txns, x.2.kind.isAgent = true → x.2.abandoned = false → ∀ p, x.2.requester = some p →
          ¬ (SweepMode.port .P2 = .all ∨ SweepMode.port .P2 = .port p)) ∧
      (∀ e : Entry, (e = ⟨0x05A, 0, .owned .P2 none, some 3⟩ ∨ e = ⟨0x05A, 0, .owned .P2 (some 9), none⟩) →
        (running e).ReadyForRelease .P0 ∧ (running e).Open .P0 ∧ setOf 0x15A = (running e).sweep.cursor / 4 ∧
          (running e).lockerOf 0x15A = some .P0 ∧
          ((running e).setEntries (setOf 0x15A)).find? (fun e => e.way == (running e).sweep.cursor % 4) = some e ∧
          e.line ≠ 0x15A ∧ e.holding.names .P2 = true) ∧
      (let u := { locked with sweep := ⟨.sweeping, some (.port .P2), 4 * setOf 0x05A + 0, false, .none, false⟩ };
        u.ReadyForRelease .P2 ∧ u.Open .P2 ∧ (u.port .P2).outbound.length + 1 < 16) := by
  refine ⟨⟨by decide, holding_calm _ _, holding_open _ _ _, rfl, by decide, rfl⟩, ⟨rfl, rfl, by decide, rfl, by decide⟩,
    ⟨holding_calm _ _, holding_open _ _, rfl, rfl⟩,
    ⟨{ holding (.owned .P2 none) none with txns := (List.range 16).map fun n => (n, fetch []) }, rfl, by decide, rfl, by decide⟩,
    ?_, ⟨rfl, rfl, rfl, rfl⟩, ⟨rfl, (hub_open .P2).room, rfl⟩, by decide⟩
  intro e he
  rcases he with rfl | rfl <;>
    exact ⟨⟨rfl, rfl, rfl, rfl⟩, ⟨rfl, (hub_open .P0).room, rfl⟩, by decide, by decide, by decide, by decide, by decide⟩

/-- An engine that is cancelled already, one with a SWEEP in flight, and one with none. -/
theorem test_meets_ACancelStopsTheCursor :
    hub.init ≠ .resetLow ∧ hub.Settled ∧ hub.sweep.activity = .idle ∧
      State.sweepsInFlight { hub with
        sweep := ⟨.sweeping, some .all, 3, false, .none, false⟩, txns := [(0, { fetch [] with kind := .sweep })] } ≠ 0 ∧
      State.sweepsInFlight { hub with sweep := ⟨.sweeping, some .all, 3, false, .none, false⟩ } = 0 ∧
      ∀ p, (hub.port p).requests = [] :=
  ⟨by decide, rfl, rfl, by decide, by decide, hub_calm.heads⟩

/-! ## Witnesses: inspect commands and registers -/

/-- The hub with an address in INSP_ADDR. -/
def inspecting (a : Reg16) : State := { hub with insp := { Insp.reset with addr := a } }

/-- The first address too large for each command; a held line. -/
theorem test_meets_InspectCommandsAreTurnedAwayInOrder :
    hub.init ≠ .resetLow ∧ (∃ s : State, s.init ≠ .resetLow ∧ ∃ start, s.init = .initialising start) ∧
      (hub.init = .ready ∧ 16 ≤ (inspecting 0x0010).insp.addr.toNat ∧ 4096 ≤ (inspecting 0x1000).insp.addr.toNat ∧
        32768 ≤ (inspecting 0x8000).insp.addr.toNat) ∧
      (∃ s : State, s.init = .ready ∧ ¬ 32768 ≤ s.insp.addr.toNat ∧ s.lookup (s.insp.addr.extractLsb' 3 12) ≠ none) ∧
      (∃ s : State, s.init = .ready ∧ ¬ 4096 ≤ s.insp.addr.toNat ∧ ∃ x ∈ s.txns, x.2.line = s.insp.addr.truncate 12) :=
  ⟨by decide, ⟨{ hub with init := .initialising 0 }, by decide, 0, rfl⟩, by decide,
    ⟨{ holding (.owned .P0 none) none with insp := { Insp.reset with addr := 0x02D7 } }, by decide⟩,
    ⟨{ recalling [] with insp := { Insp.reset with addr := 0x005A } }, by decide⟩⟩

/-- An entry and a record with every item, and one of each without: SHARED and not busy; no word, requester, partner, member or
deadline. -/
theorem test_meets_DirectoryAndSlotsReadAsTheyStand :
    ((inspecting 0x0FFF).init = .ready ∧ (inspecting 0x0FFF).insp.addr.toNat < 4096 ∧
      (inspecting 0x0FFF).lookup ((inspecting 0x0FFF).insp.addr.truncate 12) = none) ∧
      (∃ s : State, s.init = .ready ∧ s.insp.addr.toNat < 4096 ∧ ∃ e, s.lookup (s.insp.addr.truncate 12) = some e ∧ e.way < 4 ∧
        (∀ n, e.busy = some n → n < 16) ∧ (s.setEntries (setOf (s.insp.addr.truncate 12))).length ≤ 4) ∧
      ((inspecting 0x000F).insp.addr.toNat < 16 ∧ (inspecting 0x000F).txn (inspecting 0x000F).insp.addr.toNat = none ∧
        (inspecting 0x000F).seq (inspecting 0x000F).insp.addr.toNat < 16) ∧
      (∃ s : State, s.init = .ready ∧ s.insp.addr.toNat < 16 ∧ ∃ t, s.txn s.insp.addr.toNat = some t ∧
        ∀ n, t.partner = some n → n < 16) ∧
      (∃ e, (holding (.shared ⟨true, false, true, false⟩) none).lookup 0x05A = some e ∧ e.holding.owner = none ∧
        e.holding.lock = none ∧ e.busy = none) ∧
      (∀ sharers, Holding.owned .P0 (some 9) ≠ .shared sharers) ∧
      ∃ t m, State.txn { hub with txns := [(3, { fetch [{ member .P1 with deadline := none }] with
          kind := .sweep, word := none, requester := none })] } 3 = some t ∧
        t.word = none ∧ t.requester = none ∧ t.partner = none ∧ t.member .P0 = none ∧ t.member .P1 = some m ∧
        m.deadline = none := by
  refine ⟨by decide, ⟨{ holding (.owned .P0 (some 9)) (some 15) with insp := { Insp.reset with addr := 0x005A } }, rfl, by decide,
    _, rfl, by decide, ?_, by decide⟩, by decide, ⟨recalling [], rfl, by decide, fetch [], rfl, nofun⟩,
    ⟨_, rfl, rfl, rfl, rfl⟩, nofun, ⟨_, _, rfl, rfl, rfl, rfl, rfl, rfl, rfl⟩⟩
  intro n h
  cases h
  decide

/-- The last word; a unit with nothing wrong, with one wrong check bit, with two wrong data bits. -/
theorem test_meets_SmReadChecksTheUnitOfItsWord :
    ((inspecting 0x7FFF).init = .ready ∧ (inspecting 0x7FFF).insp.addr.toNat < 32768 ∧
      (inspecting 0x7FFF).sma.unitError 0xFFF 3 = UnitError.none) ∧
      UnitError.weight ⟨0, 0, 0x80⟩ = 1 ∧ UnitError.weight ⟨1, 0x80000000, 0⟩ = 2 := by decide

/-- The last word, its unit with nothing wrong, with one wrong bit and with two. -/
theorem test_meets_TheSupervisorRepairsALine :
    (∀ wrong ∈ [UnitError.none, ⟨0, 0, 0x80⟩, ⟨1, 0x80000000, 0⟩],
      let s : State := { inspecting 0x7FFF with sma := { hub.sma with errors := [(0x3FFF, wrong)] } }
      s.init = .ready ∧ s.insp.addr.toNat < 32768 ∧ s.lookup (s.insp.addr.extractLsb' 3 12) = none ∧
        s.txnOn (s.insp.addr.extractLsb' 3 12) = none ∧ s.sma.unitError (s.insp.addr.extractLsb' 3 12) 3 = wrong ∧
        s.insp.addr.toNat % 8 / 2 = 3 ∧ wrong.weight ≤ 2) ∧
      (let r := inspecting 0x0FFF;
        r.insp.addr.toNat < 4096 ∧ r.lookup (r.insp.addr.truncate 12) = none ∧ r.txnOn (r.insp.addr.truncate 12) = none) := by
  decide

theorem test_meets_ACompletedReadClearsWhatItReturned :
    hub.init ≠ .resetLow ∧ (∃ s : State, s.init ≠ .resetLow ∧ s.capture = some ⟨0x01, s.nstat, 0⟩) ∧
      (∃ s : State, s.init ≠ .resetLow ∧
        s.capture = some ⟨BitVec.ofNat 7 (0x40 + 0x10 * Port.P3.number), (s.port .P3).latches, 0⟩) :=
  ⟨by decide, ⟨{ hub with capture := some ⟨0x01, 0, 0⟩ }, by decide⟩, ⟨{ hub with capture := some ⟨0x70, 0, 0⟩ }, by decide⟩⟩

theorem test_meets_RegistersAreWritten : hub.init ≠ .resetLow := by decide

theorem test_meets_TransfersTakeTheirCommandsInOrder :
    State.reset.init = .resetLow ∧ isManagement .sweepAll = true ∧ isManagement (.capture 1) = true ∧ hub.init ≠ .resetLow := by
  decide

theorem test_meets_MessagesSurviveTheirFrames :
    agentBody (.permit .P0) = some (.P0, [0x05, 0, 0, 0, 0, 0]) ∧
      (Msg.grant 0x123 .ownedLocked).body = [0x41, 0x01, 0x23, 0, 2, 0] ∧
      (Msg.hello .P2).body = [0x61, 2, 0x08, 0x08, 0x02, 0x10] := by decide

/-! ## Witnesses: what every step keeps -/

/-- The forms hold of the hub, which is no reset state, and its step answers a next state. -/
theorem test_meets_EveryStepKeepsTheForms :
    hub.StorageForm ∧ hub.PortForms ∧ hub.NoticeForm ∧ hub.TableForm ∧ hub.LinkForm ∧ hub.DirectoryForm ∧
      ∃ t, step hub = .next t := by
  refine ⟨⟨by decide, by decide, by decide⟩, ?_, ⟨by decide, by decide⟩, ⟨by decide, by decide, fun n => ?_, by decide, by decide⟩,
    hub_linkForm, hub_directoryForm, ⟨_, rfl⟩⟩
  · intro p
    cases p <;> constructor <;> decide
  · show Store.read 0 [] n < 16
    simp [Store.read, Store.find]

end Sys2Proof.Tests
end

/-! What an acquire request does that reaches an empty queue, up to its refusal, and the statement about lines above FFFH. -/

namespace Sys2Proof.Machine

/-! ## A line field above the array -/

/-- A line field names no line exactly where it is above FFFH (R65). -/
theorem lineOf_eq_none_iff (f : LineField) : lineOf f = none ↔ 0x0FFF < f.toNat := by
  unfold lineOf Config.lineCount
  split
  · next inside => exact iff_of_false (Option.some_ne_none _) (by omega)
  · next above => exact iff_of_true rfl (by omega)

/-- The line field is looked at before everything else (R41), so neither a sweep nor any other hold is reached (R65). -/
theorem State.examineAcquire_of_above (s : State) (p : Port) {a : Acquire} (h : 0x0FFF < a.line.toNat) :
    s.examineAcquire p a = .refuse .outOfRange := by
  simp [State.examineAcquire, (lineOf_eq_none_iff a.line).2 h]

/-! ## The arrival of a request at an empty queue -/

/-- The request that an acquire command brings (R64). -/
def AcquireKind.request (k : AcquireKind) (f : LineField) (w : WordNo) : Acquire :=
  ⟨k, f, if k = .upgrade then none else some w⟩

/-- An acquire command is the frame of its request. -/
theorem exec_acquire (k : AcquireKind) (p : Port) (f : LineField) (w : WordNo) (s : State) :
    exec (k.command p f w) s = .next (s.messageFrame p fun s => s.acceptRequest p (.acquire (k.request f w))) := by
  cases k <;> rfl

/-- The state in which a request that finds port `p` ready is examined: the frame is counted good (R149), and the request
stands alone at the head (R155). -/
def State.arrived (s : State) (p : Port) (r : Request) : State :=
  s.updPort p fun ps => { ps with consecBad := 0, requests := [r] }

section
variable {s : State} {p : Port}

/-- The Sweep Engine does nothing where nothing is owed. -/
theorem State.cursorService_of_settled (h : s.Settled) : s.cursorService = s := by
  simp [State.cursorService, h]

/-- A request that finds the port ready is examined in the state `arrived`, and the event's follow-up is done. -/
theorem State.ReadyForRequest.accepted (h : s.ReadyForRequest p) (r : Request) :
    s.messageFrame p (fun s => s.acceptRequest p r) = ((s.arrived p r).examineHeads p).settle := by
  have first : ((s.goodFrame p).port p).requests = [] := by simp [State.goodFrame, h.requests]
  have joined : (s.goodFrame p).joinRequests p r = s.arrived p r := by
    simp only [State.goodFrame, State.joinRequests, State.updPort_updPort, State.arrived]
    exact State.updPort_congr s p (by simp [h.requests])
  rw [State.messageFrame_up _ h.isOpen.up, State.acceptRequest_first r first, joined]

/-- The request is the one that is examined, and it is acted on unless it is held. -/
theorem State.ReadyForRequest.examined (h : s.ReadyForRequest p) {r : Request}
    (notHeld : (s.arrived p r).verdict p r ≠ .hold) :
    (s.arrived p r).examineHeads p = ((s.arrived p r).actOn p r).cursorService := by
  have isUp : (s.arrived p r).isUp p = true := by simp [State.isUp, State.arrived, h.isOpen.up]
  have free : ((s.arrived p r).port p).headAnswering = false := by simp [State.arrived, h.answering]
  have alone : ((s.arrived p r).port p).requests = [r] := by simp [State.arrived]
  rw [State.examineHeads_single isUp free alone, if_neg notHeld]

/-! ## Refusal -/

/-- The watch event of a refusal touches no port, and does not depend on one. -/
theorem State.refusalWatch_updPort (s : State) (p q : Port) (f : PortState → PortState) (a : Acquire)
    (reason : RefuseReason) :
    (s.updPort q f).refusalWatch p a reason = (s.refusalWatch p a reason).updPort q f := by
  unfold State.refusalWatch
  split <;> rfl

@[simp] theorem State.port_refusalWatch (s : State) (p q : Port) (a : Acquire) (reason : RefuseReason) :
    (s.refusalWatch p a reason).port q = s.port q := by
  unfold State.refusalWatch
  split <;> rfl

@[simp] theorem State.work_refusalWatch (s : State) (p : Port) (a : Acquire) (reason : RefuseReason) :
    (s.refusalWatch p a reason).work = s.work := by
  unfold State.refusalWatch
  split <;> rfl

/-- What a refusal leaves where the port is ready: the watch event of the refusal, the frame counted good, and the REFUSE
with the line field as received (R44, R138). -/
def State.refused (s : State) (p : Port) (a : Acquire) (reason : RefuseReason) : State :=
  (s.refusalWatch p a reason).updPort p fun ps =>
    { ps with consecBad := 0, outbound := ps.outbound ++ [.refuse a.line a.kind.answered reason] }

/-- The REFUSE of the request that has arrived is placed at once, and takes it from the queue (R44). -/
theorem State.ReadyForRequest.refuse_arrived (h : s.ReadyForRequest p) (a : Acquire) (reason : RefuseReason) :
    (s.arrived p (.acquire a)).refuse p a reason = s.refused p a reason := by
  unfold State.refuse State.arrived State.refused
  rw [State.refusalWatch_updPort, State.updPort_updPort,
    State.offer_head _ (by simp [State.hasRoom, h.isOpen.room, h.isOpen.waiting]), State.updPort_updPort]
  exact State.updPort_congr _ p (by simp [h.requests, h.answering])

/-- An acquire request that finds the port ready and is refused: the refusal is all that happens, and no examination
follows. -/
theorem State.ReadyForRequest.exec_refused (h : s.ReadyForRequest p) (k : AcquireKind) (f : LineField) (w : WordNo)
    {reason : RefuseReason}
    (refused : (s.arrived p (.acquire (k.request f w))).examineAcquire p (k.request f w) = .refuse reason) :
    exec (k.command p f w) s = .next (s.refused p (k.request f w) reason) := by
  have notHeld : (s.arrived p (.acquire (k.request f w))).verdict p (.acquire (k.request f w)) ≠ .hold := by
    simp [State.verdict, refused]
  have acted : (s.arrived p (.acquire (k.request f w))).actOn p (.acquire (k.request f w)) =
      s.refused p (k.request f w) reason := by
    simp only [State.actOn, refused]
    exact h.refuse_arrived (k.request f w) reason
  have settled : (s.refused p (k.request f w) reason).Settled := (State.work_refusalWatch s p _ reason).trans h.settled
  rw [exec_acquire, h.accepted, h.examined notHeld, acted, State.cursorService_of_settled settled,
    State.settle_of_settled settled]

end

/-- Settles O19: the line field is the first thing an examination looks at, and a refusal for it makes no watch event. -/
theorem aLineAboveTheArrayIsRefusedOutOfRange : Obligations.ALineAboveTheArrayIsRefusedOutOfRange := by
  refine ⟨fun s p a above => s.examineAcquire_of_above p above, fun s p k f w ready above => ?_⟩
  exact ready.exec_refused k f w (State.examineAcquire_of_above _ p above)

end Sys2Proof.Machine

/-! What a release does that reaches an empty queue, and the releases that find nothing to release: the WRITEBACK of a port
that neither owns the line nor is awaited on it, the RECALL_ACK that matches no open member, and every release of a line above
FFFH. -/

namespace Sys2Proof.Machine

/-! ## Line fields and members -/

/-- A line field names the line that it carries, and no field above FFFH carries one (R178, R179). -/
theorem lineOf_eq_some_iff {f : LineField} {line : LineNo} : lineOf f = some line ↔ fieldOf line = f := by
  unfold lineOf fieldOf Config.lineCount
  constructor
  · intro h
    split at h
    · next inside => cases h; bv_omega
    · nomatch h
  · rintro rfl
    have below : (line.zeroExtend 16).toNat < 4096 := by bv_omega
    rw [if_pos below]
    exact congrArg some (by bv_omega)

/-- Only an ANSWERED member is not open (R93). -/
theorem MemberState.isOpen_iff {m : MemberState} : m.isOpen = true ↔ m ≠ .answered := by
  cases m <;> decide

/-- A transaction's member for a port is one of its members, and the port's (R39). -/
theorem Txn.member_mem {t : Txn} {p : Port} {m : Member} (h : t.member p = some m) : m ∈ t.awaited ∧ m.port = p :=
  ⟨List.mem_of_find?_eq_some h, by simpa using List.find?_some h⟩

/-- A transaction awaits a port only by an open member for it. -/
theorem Txn.member_of_awaits {t : Txn} {p : Port} (h : t.awaits p = true) :
    ∃ m, t.member p = some m ∧ m.state ≠ .answered := by
  unfold Txn.awaits at h
  split at h
  · next m found => exact ⟨m, found, MemberState.isOpen_iff.1 h⟩
  · nomatch h

/-- The transaction found on a line is in flight and names the line (R37). -/
theorem State.txnOn_mem {s : State} {line : LineNo} {x : Nat × Txn} (h : s.txnOn line = some x) :
    x ∈ s.txns ∧ x.2.line = line :=
  ⟨List.mem_of_find?_eq_some h, by simpa using List.find?_some h⟩

/-- A port is awaited on a line only by an open member of a transaction in flight that names the line (R88). -/
theorem State.member_of_awaitedOn {s : State} {p : Port} {line : LineNo} (h : s.awaitedOn p line = true) :
    ∃ x ∈ s.txns, x.2.line = line ∧ ∃ m, x.2.member p = some m ∧ m.state ≠ .answered := by
  unfold State.awaitedOn at h
  split at h
  · next x found =>
    obtain ⟨inFlight, onLine⟩ := State.txnOn_mem found
    exact ⟨x, inFlight, onLine, Txn.member_of_awaits h⟩
  · nomatch h

/-! ## What releases match -/

/-- A WRITEBACK is not accepted from a port that is not the owner and is awaited by no transaction on the line (R91). -/
theorem State.acceptsWriteback_eq_false {s : State} {p : Port} {line : LineNo} (notOwner : s.ownerOf line ≠ some p)
    (closed : ∀ x ∈ s.txns, x.2.line = line → ∀ m ∈ x.2.awaited, m.port = p → m.state = .answered) :
    s.acceptsWriteback p line = false := by
  have notAwaited : s.awaitedOn p line ≠ true := by
    intro awaited
    obtain ⟨x, inFlight, onLine, m, found, isOpen⟩ := State.member_of_awaitedOn awaited
    obtain ⟨listed, ofPort⟩ := Txn.member_mem found
    exact isOpen (closed x inFlight onLine m listed ofPort)
  simp [State.acceptsWriteback, notOwner, notAwaited]

/-- A RECALL_ACK matches only the open member for its port of the transaction in flight in its tag's slot, under the same tag
and on the same line (R93). -/
theorem State.matchAck_spec {s : State} {p : Port} {f : LineField} {tag : Tag} {line : LineNo} {m : Member}
    (h : s.matchAck p f tag = some (line, m)) :
    ∃ t, s.txn (tagSlot tag) = some t ∧ t.tag = tag ∧ fieldOf t.line = f ∧ t.member p = some m ∧ m.state ≠ .answered := by
  unfold State.matchAck at h
  split at h
  · next t named inSlot ofField =>
    split at h
    · next same =>
      obtain ⟨sameTag, rfl⟩ := same
      split at h
      · next found =>
        split at h
        · next isOpen =>
          cases h
          exact ⟨t, inSlot, sameTag, lineOf_eq_some_iff.1 ofField, found, MemberState.isOpen_iff.1 isOpen⟩
        · nomatch h
      · nomatch h
    · nomatch h
  · nomatch h

/-- A RECALL_ACK that finds no open member matches nothing (R94). -/
theorem State.matchAck_eq_none {s : State} {p : Port} {f : LineField} {tag : Tag}
    (closed : ∀ t m, s.txn (tagSlot tag) = some t → t.tag = tag → fieldOf t.line = f → t.member p = some m →
      m.state = .answered) :
    s.matchAck p f tag = none := by
  cases matched : s.matchAck p f tag with
  | none => rfl
  | some found =>
    obtain ⟨t, inSlot, sameTag, sameLine, member, isOpen⟩ := State.matchAck_spec matched
    exact absurd (closed t found.2 inSlot sameTag sameLine member) isOpen

/-! ## The taking of a release that finds nothing to release -/

/-- A WRITEBACK that is not accepted, and one of a line above FFFH, only latch PROTOCOL (R91, R102). -/
theorem State.takeWriteback_refused {s : State} {p : Port} {f : LineField}
    (refused : ∀ line, lineOf f = some line → s.acceptsWriteback p line = false) (keep : Bool) (d : LineData) :
    s.takeWriteback p f keep d = (s.latchProtocol p, .refuse .notOwner) := by
  unfold State.takeWriteback
  split
  · rfl
  · next line named => simp [refused line named]

/-- An EVICT of a line above FFFH changes nothing (R102). -/
theorem State.takeEvict_of_above {s : State} {p : Port} {f : LineField} (above : 0x0FFF < f.toNat) : s.takeEvict p f = s := by
  simp [State.takeEvict, (lineOf_eq_none_iff f).2 above]

/-- An UNLOCK of a line above FFFH is refused and changes nothing (R102). -/
theorem State.takeUnlock_of_above {s : State} {p : Port} {f : LineField} (above : 0x0FFF < f.toNat) :
    s.takeUnlock p f = (s, .refuse .notLocked) := by
  simp [State.takeUnlock, (lineOf_eq_none_iff f).2 above]

/-- A RECALL_ACK that matches nothing is stale (R94). -/
theorem State.takeRecallAck_stale {s : State} {p : Port} {f : LineField} {tag : Tag} (unmatched : s.matchAck p f tag = none)
    (a : Answer) : s.takeRecallAck p f tag a = s.staleAck p := by
  simp [State.takeRecallAck, unmatched]

/-- A byte counter stays at 255 (R172). -/
theorem saturatingInc_byte (n : Byte) : saturatingInc n = if n = 255 then 255 else n + 1 := by
  have top : BitVec.allOnes 8 = 255 := by decide
  unfold saturatingInc
  rw [top]
  split
  · next full => exact full
  · rfl

/-! ## The arrival of a release at an empty queue -/

/-- A release command is the frame of its release. -/
theorem exec_release (r : Release) (p : Port) (s : State) :
    exec (r.command p) s = .next (s.messageFrame p fun s => s.acceptRelease p r) := by
  cases r <;> rfl

/-- The state in which a release that finds port `p` ready is taken: the frame is counted good (R149), and the release stands
alone at the head (R85). -/
def State.brought (s : State) (p : Port) (r : Release) : State :=
  s.updPort p fun ps => { ps with consecBad := 0, releases := [r] }

/-- What a release leaves that changes nothing but is answered: the frame counted good, and the answer placed (R87). -/
def State.replied (s : State) (p : Port) (m : Msg) : State :=
  s.updPort p fun ps => { ps with consecBad := 0, outbound := ps.outbound ++ [m] }

/-- The latching of a notice with its port latch, and a change of the port that leaves its latches to themselves, may come in
either order. -/
theorem State.updPort_latchBoth (s : State) (p : Port) (n : Notice) (l : PortLatch) {f : PortState → PortState}
    (apart : ∀ ps, f { ps with latches := ps.latches ||| l.bit } = { f ps with latches := (f ps).latches ||| l.bit }) :
    (s.latchBoth p n l).updPort p f = (s.updPort p f).latchBoth p n l := by
  simp [State.latchBoth, State.latch, State.latchPort, State.updPort, State.port, apart]

/-- The latches do not take room in the outbound queue. -/
theorem State.hasRoom_latchBoth (s : State) (p : Port) (n : Notice) (l : PortLatch) :
    (s.latchBoth p n l).hasRoom p = s.hasRoom p := by
  simp [State.hasRoom, State.latchBoth, State.port_latchPort]

section
variable {s : State} {p : Port}

/-- A release that finds the port ready is taken in the state `brought`; where the taking leaves no work, it is all that
happens. -/
theorem State.ReadyForRelease.exec_taken (h : s.ReadyForRelease p) (r : Release) {t : State}
    (taken : (s.brought p r).takeRelease p r = t) (settled : t.Settled) : exec (r.command p) s = .next t := by
  have first : ((s.goodFrame p).port p).releases = [] := by simp [State.goodFrame, h.releases]
  have joined : (s.goodFrame p).joinReleases p r = s.brought p r := by
    simp only [State.goodFrame, State.joinReleases, State.updPort_updPort, State.brought]
    exact State.updPort_congr s p (by simp [h.releases])
  have isUp : (s.brought p r).isUp p = true := by simp [State.isUp, State.brought, h.up]
  have unapplied : ((s.brought p r).port p).releaseApplied = false := by simp [State.brought, h.applied]
  have alone : ((s.brought p r).port p).releases = [r] := by simp [State.brought]
  rw [exec_release, State.messageFrame_up _ h.up, State.acceptRelease_first r first, joined,
    State.takeReleases_single isUp unapplied alone, taken, State.settle_of_settled settled]

/-- While the release at the head is applied, the port has room for its answer. -/
theorem State.Open.hasRoom_applied (o : s.Open p) (r : Release) : ((s.brought p r).markApplied p).hasRoom p = true := by
  simp [State.hasRoom, State.markApplied, State.brought, o.room, o.waiting]

/-- The answer of the release that has arrived is placed at once, and takes it from the queue (R85, R87). -/
theorem State.ReadyForRelease.offer_applied (h : s.ReadyForRelease p) (o : s.Open p) (r : Release) (m : Msg) :
    ((s.brought p r).markApplied p).offer p (.release m) = s.replied p m := by
  rw [State.offer_release m (o.hasRoom_applied r)]
  simp only [State.markApplied, State.brought, State.updPort_updPort, State.replied]
  exact State.updPort_congr s p (by simp [h.releases, h.applied])

/-- The answer is placed in the same way where the taking has latched PROTOCOL (R91). -/
theorem State.ReadyForRelease.offer_latched (h : s.ReadyForRelease p) (o : s.Open p) (r : Release) (m : Msg) :
    (((s.brought p r).markApplied p).latchProtocol p).offer p (.release m) =
      (s.replied p m).latchBoth p .protocol .protocol := by
  have room := o.hasRoom_applied r
  rw [State.latchProtocol, State.offer_release m ((State.hasRoom_latchBoth _ _ _ _).trans room),
    State.updPort_latchBoth _ _ _ _ fun _ => rfl, ← State.offer_release m room, h.offer_applied o r m]

/-- A WRITEBACK that is not accepted is refused NOT_OWNER with PROTOCOL latched, and leaves the array as it is (R91). -/
theorem State.ReadyForRelease.exec_writeback_refused (h : s.ReadyForRelease p) (o : s.Open p) (f : LineField)
    (refused : ∀ line, lineOf f = some line → s.acceptsWriteback p line = false) (keep : Bool) (d : LineData) :
    exec (.writeback p f keep d) s =
      .next ((s.replied p (.refuse f .writeback .notOwner)).latchBoth p .protocol .protocol) := by
  have taken : (s.brought p (.writeback f keep d)).takeRelease p (.writeback f keep d) =
      (s.replied p (.refuse f .writeback .notOwner)).latchBoth p .protocol .protocol := by
    have refusedThen : ∀ line, lineOf f = some line →
        ((s.brought p (.writeback f keep d)).markApplied p).acceptsWriteback p line = false := refused
    simp only [State.takeRelease, State.takeWriteback_refused refusedThen]
    exact h.offer_latched o (.writeback f keep d) (.refuse f .writeback .notOwner)
  exact h.exec_taken (.writeback f keep d) taken h.settled

/-- An EVICT of a line above FFFH is answered DONE (R102). -/
theorem State.ReadyForRelease.exec_evict_of_above (h : s.ReadyForRelease p) (o : s.Open p) {f : LineField}
    (above : 0x0FFF < f.toNat) : exec (.evict p f) s = .next (s.replied p (.done f .evict)) := by
  have taken : (s.brought p (.evict f)).takeRelease p (.evict f) = s.replied p (.done f .evict) := by
    simp only [State.takeRelease, State.takeEvict_of_above above]
    exact h.offer_applied o (.evict f) (.done f .evict)
  exact h.exec_taken (.evict f) taken h.settled

/-- An UNLOCK of a line above FFFH is refused NOT_LOCKED (R102). -/
theorem State.ReadyForRelease.exec_unlock_of_above (h : s.ReadyForRelease p) (o : s.Open p) {f : LineField}
    (above : 0x0FFF < f.toNat) : exec (.unlock p f) s = .next (s.replied p (.refuse f .unlock .notLocked)) := by
  have taken : (s.brought p (.unlock f)).takeRelease p (.unlock f) = s.replied p (.refuse f .unlock .notLocked) := by
    simp only [State.takeRelease, State.takeUnlock_of_above above]
    exact h.offer_applied o (.unlock f) (.refuse f .unlock .notLocked)
  exact h.exec_taken (.unlock f) taken h.settled

/-- A RECALL_ACK that finds no open member raises the stale-ack count, to at most 255, and leaves the queue again without an
answer (R93, R94). -/
theorem State.ReadyForRelease.exec_recallAck_stale (h : s.ReadyForRelease p) (f : LineField) (tag : Tag) (answer : Answer)
    (closed : ∀ t m, s.txn (tagSlot tag) = some t → t.tag = tag → fieldOf t.line = f → t.member p = some m →
      m.state = .answered) :
    exec (.recallAck p f tag answer) s = .next (s.updPort p fun ps =>
      { ps with consecBad := 0, staleAcks := if ps.staleAcks = 255 then 255 else ps.staleAcks + 1 }) := by
  have taken : (s.brought p (.recallAck f tag answer)).takeRelease p (.recallAck f tag answer) = s.updPort p fun ps =>
      { ps with consecBad := 0, staleAcks := if ps.staleAcks = 255 then 255 else ps.staleAcks + 1 } := by
    have unmatched : ((s.brought p (.recallAck f tag answer)).popRelease p).matchAck p f tag = none :=
      State.matchAck_eq_none closed
    rw [State.takeRelease, State.takeRecallAck_stale unmatched]
    simp only [State.staleAck, State.popRelease, State.brought, State.updPort_updPort, saturatingInc_byte]
    exact State.updPort_congr s p (by simp [h.releases])
  exact h.exec_taken (.recallAck f tag answer) taken h.settled

end

/-! ## The statements -/

/-- Settles O31: the field names the line, and the line's WRITEBACK is not accepted from the port. -/
theorem aWritebackFromANonOwnerIsRefused : Obligations.AWritebackFromANonOwnerIsRefused := by
  intro s p line keep d ready isOpen notOwner closed
  refine ready.exec_writeback_refused isOpen (fieldOf line) (fun l named => ?_) keep d
  obtain rfl : line = l := Option.some.inj ((lineOf_eq_some_iff.2 rfl).symm.trans named)
  exact State.acceptsWriteback_eq_false notOwner closed

/-- Settles O36: a field above FFFH names no line, so that there is nothing to release, and no transaction on it that a
RECALL_ACK could match. -/
theorem unmatchedReleasesAreCountedOrAnswered : Obligations.UnmatchedReleasesAreCountedOrAnswered := by
  intro s p f ready
  refine ⟨fun tag answer closed => ready.exec_recallAck_stale f tag answer closed, fun isOpen above => ?_⟩
  have unnamed : lineOf f = none := (lineOf_eq_none_iff f).2 above
  refine ⟨fun keep d => ?_, ready.exec_evict_of_above isOpen above, ready.exec_unlock_of_above isOpen above,
    fun tag answer => ?_⟩
  · exact ready.exec_writeback_refused isOpen f (fun line named => nomatch unnamed.symm.trans named) keep d
  · refine ready.exec_recallAck_stale f tag answer fun t m _ _ onLine _ => ?_
    exact nomatch unnamed.symm.trans (lineOf_eq_some_iff.2 onLine)

end Sys2Proof.Machine

/-! What the Port Controller does with a frame in UP on its own account: the PARK of R161, and the request that finds the queue
full (R156). -/

namespace Sys2Proof.Machine

/-! ## Room in the outbound queue -/

/-- There is room exactly where the queue has a free place and nothing waits for it (R53, R156). -/
theorem State.hasRoom_iff (s : State) (p : Port) :
    s.hasRoom p = true ↔ (s.port p).outbound.length < Config.outboundDepth ∧ (s.port p).waiting = [] := by
  simp [State.hasRoom]

/-- A port in UP that is not open has no room. -/
theorem State.hasRoom_eq_false_of_not_open {s : State} {p : Port} (up : (s.port p).link = .up) (closed : ¬ s.Open p) :
    s.hasRoom p = false := by
  rw [← Bool.not_eq_true, State.hasRoom_iff]
  exact fun ⟨room, waiting⟩ => closed ⟨up, room, waiting⟩

/-- The counting of a good frame takes no room in the outbound queue. -/
@[simp] theorem State.hasRoom_goodFrame (s : State) (p : Port) : (s.goodFrame p).hasRoom p = s.hasRoom p := by
  simp [State.hasRoom, State.goodFrame]

/-- A plain message offered to a port without room goes to the end of its wait list (R53). -/
theorem State.offer_plain_of_full {s : State} {p : Port} (m : Msg) (full : s.hasRoom p = false) :
    s.offer p (.plain m) = s.updPort p fun ps => { ps with waiting := ps.waiting ++ [.plain m] } :=
  State.offer_of_full _ full

/-! ## When a PARK is refused -/

/-- A transaction names the port as R161 means it where it is the port's and not abandoned, or has a member for it. -/
theorem State.namedInTxn_iff (s : State) (p : Port) :
    s.namedInTxn p = true ↔ ∃ x ∈ s.txns, x.2.isLiveOf p = true ∨ (x.2.member p).isSome = true := by
  simp [State.namedInTxn, Txn.isLiveOf]

/-- A port is quiet where its two queues, its outbound queue and its wait list are empty (R161). -/
theorem PortState.quiet_iff (ps : PortState) :
    ps.quiet = true ↔ ps.requests = [] ∧ ps.releases = [] ∧ ps.outbound = [] ∧ ps.waiting = [] := by
  simp [PortState.quiet, and_assoc]

section
variable {s : State} {p : Port}

/-- The PARK of a port with a holding or a lock is refused HOLDINGS (R161). -/
theorem State.parkRefusal_of_held (held : s.holdingCount p ≠ 0 ∨ s.lockCount p ≠ 0) : s.parkRefusal p = some .holdings :=
  if_pos held

/-- Without holding and lock, what remains to be asked is whether the port is active (R161). -/
theorem State.parkRefusal_of_unheld (unheld : s.holdingCount p = 0) (unlocked : s.lockCount p = 0) :
    s.parkRefusal p = if s.namedInTxn p || !(s.port p).quiet then some .active else none := by
  simp [State.parkRefusal, unheld, unlocked]

/-- The PARK of a port that holds nothing, but has a transaction or a message, is refused ACTIVE (R161). -/
theorem State.parkRefusal_of_active (unheld : s.holdingCount p = 0) (unlocked : s.lockCount p = 0)
    (active : (∃ x ∈ s.txns, x.2.isLiveOf p = true ∨ (x.2.member p).isSome = true) ∨ (s.port p).requests ≠ [] ∨
      (s.port p).releases ≠ [] ∨ (s.port p).outbound ≠ [] ∨ (s.port p).waiting ≠ []) :
    s.parkRefusal p = some .active := by
  have busy : s.namedInTxn p = true ∨ ¬ (s.port p).quiet = true := by
    rw [State.namedInTxn_iff, PortState.quiet_iff]
    exact active.imp id (by tauto)
  rw [State.parkRefusal_of_unheld unheld unlocked, if_pos (by simpa using busy)]

/-- The PARK of a port that holds nothing and has neither transaction nor message is not refused (R161). -/
theorem State.parkRefusal_of_idle (unheld : s.holdingCount p = 0) (unlocked : s.lockCount p = 0)
    (unnamed : ∀ x ∈ s.txns, x.2.isLiveOf p = false ∧ x.2.member p = none) (quiet : (s.port p).quiet = true) :
    s.parkRefusal p = none := by
  have notNamed : ¬ s.namedInTxn p = true := by
    rw [State.namedInTxn_iff]
    rintro ⟨x, inFlight, named⟩
    simp [unnamed x inFlight] at named
  rw [State.parkRefusal_of_unheld unheld unlocked, if_neg (by simp [notNamed, quiet])]

/-- That the PARK is counted as a good frame changes nothing that its conditions look at. -/
@[simp] theorem State.parkRefusal_goodFrame (s : State) (p : Port) : (s.goodFrame p).parkRefusal p = s.parkRefusal p := by
  have same : ((s.goodFrame p).port p).quiet = (s.port p).quiet := by simp [State.goodFrame, PortState.quiet]
  unfold State.parkRefusal
  rw [same]
  rfl

/-! ## What a PARK in UP does -/

/-- A PARK in UP is counted as a good frame and then taken (R149, R161). -/
theorem exec_park_up (up : (s.port p).link = .up) : exec (.park p) s = .next ((s.goodFrame p).takePark p) := by
  show execPark p s = _
  simp [execPark, up]

/-- A PARK that is not refused parks the port; its queue being empty, PARKED is placed at once (R161). -/
theorem exec_park_accepted (up : (s.port p).link = .up) (accepted : s.parkRefusal p = none)
    (outbound : (s.port p).outbound = []) (waiting : (s.port p).waiting = []) :
    exec (.park p) s = .next (s.updPort p fun ps =>
      { ps with link := .parked, permit := false, consecBad := 0, outbound := [.parked] }) := by
  have room : ((s.goodFrame p).updPort p fun ps => { ps with link := .parked, permit := false }).hasRoom p = true := by
    simp [State.hasRoom_iff, State.goodFrame, outbound, waiting, Config.outboundDepth]
  simp only [exec_park_up up, State.takePark, State.parkRefusal_goodFrame, accepted]
  rw [State.offer_plain .parked room]
  simp only [State.goodFrame, State.updPort_updPort]
  exact congrArg _ (State.updPort_congr s p (by simp [outbound]))

/-- A refused PARK offers PARK_REFUSED, unless one waits already (R161). -/
theorem exec_park_refused (up : (s.port p).link = .up) {reason : ParkReason} (refused : s.parkRefusal p = some reason) :
    exec (.park p) s = .next (if (s.port p).waiting.any Offer.isParkRefused then s.goodFrame p
      else (s.goodFrame p).offer p (.plain (.parkRefused reason))) := by
  have kept : ((s.goodFrame p).port p).waiting = (s.port p).waiting := by simp [State.goodFrame]
  simp only [exec_park_up up, State.takePark, State.parkRefusal_goodFrame, refused, kept]

/-- PARK_REFUSED is placed at once where the port is open (R53, R161). -/
theorem State.Open.exec_park_refused_placed (o : s.Open p) {reason : ParkReason} (refused : s.parkRefusal p = some reason) :
    exec (.park p) s = .next (s.updPort p fun ps =>
      { ps with consecBad := 0, outbound := ps.outbound ++ [.parkRefused reason] }) := by
  have room : (s.goodFrame p).hasRoom p = true := (s.hasRoom_goodFrame p).trans o.hasRoom
  rw [exec_park_refused o.up refused, if_neg (by simp [o.waiting]), State.offer_plain _ room]
  simp only [State.goodFrame, State.updPort_updPort]

/-- PARK_REFUSED waits where the port is not open and none waits yet (R53, R161). -/
theorem exec_park_refused_waits (up : (s.port p).link = .up) (closed : ¬ s.Open p) {reason : ParkReason}
    (refused : s.parkRefusal p = some reason) (first : ∀ o ∈ (s.port p).waiting, o.isParkRefused = false) :
    exec (.park p) s = .next (s.updPort p fun ps =>
      { ps with consecBad := 0, waiting := ps.waiting ++ [.plain (.parkRefused reason)] }) := by
  have full : (s.goodFrame p).hasRoom p = false :=
    (s.hasRoom_goodFrame p).trans (State.hasRoom_eq_false_of_not_open up closed)
  rw [exec_park_refused up refused, if_neg (by simpa using first), State.offer_plain_of_full _ full]
  simp only [State.goodFrame, State.updPort_updPort]

/-- A PARK refused while a PARK_REFUSED waits is only a good frame (R161). -/
theorem exec_park_refused_again (up : (s.port p).link = .up) {reason : ParkReason}
    (refused : s.parkRefusal p = some reason) (waits : ∃ o ∈ (s.port p).waiting, o.isParkRefused = true) :
    exec (.park p) s = .next (s.updPort p fun ps => { ps with consecBad := 0 }) := by
  rw [exec_park_refused up refused, if_pos (List.any_eq_true.2 waits)]
  rfl

/-! ## The ninth request -/

/-- A request that finds eight in the queue is an overrun (R156). -/
theorem State.acceptRequest_of_full (r : Request) (full : (s.port p).requests.length = 8) :
    s.acceptRequest p r = s.requestOverrun p r := by
  simp [State.acceptRequest, full, Config.requestDepth]

/-- What every request overrun leaves: the frame counted good, the overrun count raised, to at most 255, and OVERRUN latched
(R149, R156). -/
def State.overrun (s : State) (p : Port) : State :=
  (s.updPort p fun ps =>
    { ps with consecBad := 0, overruns := if ps.overruns = 255 then 255 else ps.overruns + 1 }).latchBoth p .overrun .overrun

/-- An overrun takes no room in the outbound queue. -/
theorem State.hasRoom_overrun (s : State) (p : Port) : (s.overrun p).hasRoom p = s.hasRoom p := by
  rw [State.overrun, State.hasRoom_latchBoth]
  simp [State.hasRoom]

/-- A request overrun is answered only where there is room at once (R156). -/
theorem State.requestOverrun_goodFrame (s : State) (p : Port) (r : Request) :
    (s.goodFrame p).requestOverrun p r =
      if s.hasRoom p then (s.overrun p).pushOut p (.refuse r.answered.1 r.answered.2 .overrun) else s.overrun p := by
  have counted : ((s.goodFrame p).updPort p fun ps => { ps with overruns := saturatingInc ps.overruns }).latchBoth p
      .overrun .overrun = s.overrun p := by
    simp only [State.goodFrame, State.updPort_updPort, saturatingInc_byte, State.overrun]
  simp only [State.requestOverrun, counted, State.hasRoom_overrun]

/-- The REFUSE of an overrun beside what the overrun leaves otherwise. -/
theorem State.pushOut_overrun (s : State) (p : Port) (m : Msg) :
    (s.overrun p).pushOut p m = (s.updPort p fun ps =>
      { ps with
        consecBad := 0
        overruns := if ps.overruns = 255 then 255 else ps.overruns + 1
        outbound := ps.outbound ++ [m] }).latchBoth p .overrun .overrun := by
  rw [State.pushOut, State.overrun, State.updPort_latchBoth _ _ _ _ fun _ => rfl, State.updPort_updPort]

/-- A request command is the frame of a request that a REFUSE names by the line and the kind of the command: a PERMIT has line
000H (R156). -/
theorem exec_request_frame {c : Instr} {f : LineField} {kind : AnsweredKind}
    (command : c = .permit p ∧ f = 0 ∧ kind = .permit ∨ ∃ k w, c = AcquireKind.command k p f w ∧ kind = k.answered) :
    ∃ r : Request, r.answered = (f, kind) ∧ exec c s = .next (s.messageFrame p fun s => s.acceptRequest p r) := by
  obtain ⟨rfl, rfl, rfl⟩ | ⟨k, w, rfl, rfl⟩ := command
  · exact ⟨.permit, rfl, rfl⟩
  · exact ⟨.acquire (k.request f w), rfl, exec_acquire k p f w s⟩

end

/-! ## The statements -/

/-- Settles O13: by the reason for which R161 refuses the PARK, if any. -/
theorem parkIsAcceptedOnlyFromAnIdlePort : Obligations.ParkIsAcceptedOnlyFromAnIdlePort := by
  intro s p up
  refine ⟨fun unheld unlocked unnamed requests releases outbound waiting => ?_, fun reason why => ?_⟩
  · have quiet : (s.port p).quiet = true := (PortState.quiet_iff _).2 ⟨requests, releases, outbound, waiting⟩
    exact exec_park_accepted up (State.parkRefusal_of_idle unheld unlocked unnamed quiet) outbound waiting
  · have refused : s.parkRefusal p = some reason := by
      obtain ⟨rfl, held⟩ | ⟨rfl, unheld, unlocked, active⟩ := why
      · exact State.parkRefusal_of_held held
      · exact State.parkRefusal_of_active unheld unlocked active
    exact ⟨fun isOpen => isOpen.exec_park_refused_placed refused, fun closed => exec_park_refused_waits up closed refused,
      exec_park_refused_again up refused⟩

/-- Settles O29: the request, whichever it is, finds the queue full, and its REFUSE is placed where there is room. -/
theorem aNinthRequestIsAnOverrun : Obligations.ANinthRequestIsAnOverrun := by
  intro s p c f kind up eight command
  obtain ⟨r, answered, frame⟩ := exec_request_frame (s := s) command
  have full : ((s.goodFrame p).port p).requests.length = 8 := by simpa [State.goodFrame] using eight
  rw [frame, State.messageFrame_up _ up, State.acceptRequest_of_full r full, State.requestOverrun_goodFrame, answered]
  refine ⟨fun free unwaited => ?_, fun blocked => ?_⟩
  · rw [if_pos ((s.hasRoom_iff p).2 ⟨free, unwaited⟩), State.pushOut_overrun]
  · have noRoom : ¬ s.hasRoom p = true := by
      rw [State.hasRoom_iff]
      rintro ⟨free, unwaited⟩
      exact blocked.elim (Nat.not_le.2 free) fun waits => waits unwaited
    rw [if_neg noRoom]
    rfl

end Sys2Proof.Machine
